-- ==== Sys2Proof/Word.lean ====
section
/-! DEFINITION. The word types of the Tagfield TF7240 and the plainest containers the state is made of.
Bytes, halves and words are what travels in frames and in the configuration image (R201).
Step counts, angles and coordinates are whole numbers: the spec computes them exactly and narrows by named clamps. -/

namespace Sys2Proof

/-- One byte of a frame or of the configuration image. -/
abbrev Byte := BitVec 8

/-- A two-byte field of a frame. -/
abbrev Half := BitVec 16

/-- A four-byte field of a command entry or of the configuration image. -/
abbrev Word := BitVec 32

/-- A vector in the order east, north, up (section 5.1 of the scope file). -/
structure Vec3 where
  e : Int
  n : Int
  u : Int
deriving DecidableEq, Repr

/-- The two axes of a heliostat. -/
inductive AxisId where
  | az
  | el
deriving DecidableEq, Repr

/-- A pair of step counts, one for each axis of a heliostat: a posture, a HOLD target, a snapshot. -/
structure Steps where
  az : Int
  el : Int
deriving DecidableEq, Repr

/-- Every entry of a fixed bank replaced by a function of its index and its old value. -/
def mapEach {α : Type} {n : Nat} (f : Fin n → α → α) (v : Vector α n) : Vector α n :=
  Vector.ofFn fun i => f i v[i]

end Sys2Proof
end

