-- ==== Sys2Proof/Syntax.lean ====
section
/-! DEFINITION. The commands of the block: one constructor of `Instr` for each row of spec/opcode_table.json,
with the operands the row's rule reads. A command is an event that reaches the block: a taken command entry, a
received frame, a change of an input pin, or an instant of one of the block's own clocks. -/

namespace Sys2Proof

/-- One command entry of a COMMAND frame (R102, R202). -/
structure CommandEntry where
  target    : Half
  kind      : Byte
  heliostat : Byte
  param1    : Word
  param2    : Word
deriving DecidableEq, Repr

/-- Three signed two-byte components of a SUN frame (R202). -/
structure FrameVec where
  e : Half
  n : Half
  u : Half
deriving DecidableEq, Repr

/-- The limit and the measured flux of one zone in a RECEIVER frame (R202). -/
structure ZoneReading where
  limit    : Half
  measured : Half
deriving DecidableEq, Repr

/-- One entry of the contribution list of a CONTRIBUTION frame (R202). -/
structure FrameItem where
  zone    : Byte
  planned : Half
  want    : Bool
deriving DecidableEq, Repr

/-- A frame as the receiver holds it when the frame ends (R90): the slot it began in; where the epoch it began in is
over, whether the station had begun its own frame in that epoch; whether every stop bit was read as 1, how many bytes
were counted, and the bytes kept. -/
structure RawFrame where
  slot    : Nat
  past    : Option Bool
  stopsOk : Bool
  count   : Nat
  bytes   : List Byte
deriving DecidableEq, Repr

/-- The power-on reset as it now stands, in force or not, and the levels the strap pins then have (R180, R192). -/
structure PowerOnInput where
  inForce : Bool
  straps  : BitVec 9
deriving DecidableEq, Repr

/-- The level the RESETn pin now has, and the levels the strap pins then have (R180, R192). -/
structure ResetnInput where
  level  : Bool
  straps : BitVec 9
deriving DecidableEq, Repr

/-- The commands of the TF7240, one constructor per row of spec/opcode_table.json. -/
inductive Instr where
  /-- STOW_FIELD (R77): heliostat field of the entry. -/
  | stowField (hf : Byte)
  /-- STOW_RELEASE (R78): heliostat field. -/
  | stowRelease (hf : Byte)
  /-- STANDBY_SET (R79): heliostat field. -/
  | standbySet (hf : Byte)
  /-- STANDBY_CLEAR (R79): heliostat field. -/
  | standbyClear (hf : Byte)
  /-- HOLD (R73): heliostat field, azimuth steps, elevation steps. -/
  | hold (hf : Byte) (azSteps elSteps : Word)
  /-- HOLD_RELEASE (R75): heliostat field. -/
  | holdRelease (hf : Byte)
  /-- SERVICE_OUT (R14): heliostat field. -/
  | serviceOut (hf : Byte)
  /-- SERVICE_IN (R15): heliostat field. -/
  | serviceIn (hf : Byte)
  /-- CORRECT (R16): heliostat field, the two offsets. -/
  | correct (hf : Byte) (dAz dEl : Word)
  /-- REHOME (R62): heliostat field, 0xFF for all. -/
  | rehome (hf : Byte)
  /-- DEFOCUS_RELEASE (R132): heliostat field. -/
  | defocusRelease (hf : Byte)
  /-- CLEAR_ALERTS (R199): heliostat field. -/
  | clearAlerts (hf : Byte)
  /-- CLEAR_STICKY (R199): heliostat field. -/
  | clearSticky (hf : Byte)
  /-- REPORT (R106): heliostat field, 0xFF for the counters. -/
  | report (hf : Byte)
  /-- RESTART (R193): heliostat field. -/
  | restart (hf : Byte)
  /-- RESERVED_COMMAND (R102): the reserved kind and the heliostat field. -/
  | reservedCommand (kind hf : Byte)
  /-- SUN_FRAME (R111): reference slot, direction, rates. -/
  | sunFrame (slot : Fin 8) (s0 r : FrameVec)
  /-- RECEIVER_FRAME (R119): reference slot, state byte, one reading per zone. -/
  | receiverFrame (slot : Fin 8) (state : Byte) (zones : List ZoneReading)
  /-- CONTRIBUTION_FRAME (R141): sender slot, station state byte, contribution list. -/
  | contributionFrame (sender : Nat) (state : Byte) (items : List FrameItem)
  /-- OWN_NUMBER_FRAME (R92): a valid contribution frame with this station's own number. -/
  | ownNumberFrame
  /-- FRAME_DROPPED (R91): the frame as received. -/
  | frameDropped (raw : RawFrame)
  /-- EPOCH_START (R87): an own wrap; `tickFirst` says whether the aim tick of this instant is taken
  before the Station Controller's tests (R20). -/
  | epochStart (tickFirst : Bool)
  /-- TIME_MARK (R88): a rising edge of TMARK; `tickFirst` as for EPOCH_START. -/
  | timeMark (tickFirst : Bool)
  /-- MARK_WINDOW_CLOSE (R89). -/
  | markWindowClose
  /-- MARK_LOST (R89). -/
  | markLost
  /-- SLOT_START (R87): the slot shown from now on, 1 to 399. -/
  | slotStart (slot : Nat)
  /-- BUS_LOST (R93). -/
  | busLost
  /-- BUILD (R95). -/
  | build
  /-- FRAME_BEGIN (R95). -/
  | frameBegin
  /-- TRANSMIT_COMPLETION (R96). -/
  | transmitCompletion
  /-- ECHO_MISMATCH (R97). -/
  | echoMismatch
  /-- ENTER_SILENT (R191). -/
  | enterSilent
  /-- ENTER_ISOLATED (R187). -/
  | enterIsolated
  /-- ENTER_NIGHT (R189). -/
  | enterNight
  /-- SUN_RECORD_EXPIRY (R112): the record's slot. -/
  | sunRecordExpiry (slot : Fin 8)
  /-- RX_STALE (R120). -/
  | rxStale
  /-- PEER_AGE_OUT (R150): set, and way 1 or way 0. -/
  | peerAgeOut (set : Fin 32) (way1 : Bool)
  /-- RESIDUE_EXPIRY (R151): zone. -/
  | residueExpiry (zone : Fin 32)
  /-- AIM_TICK (R21): the tick's instant within the epoch in ms, and the turn before which this part of
  the tick pauses (8 for a whole tick); a tick in progress goes on. -/
  | aimTick (offset stop : Nat)
  /-- AXIS_STEP (R44): heliostat and axis. -/
  | axisStep (h : Fin 8) (a : AxisId)
  /-- INDEX_EDGE (R53, R56): heliostat, axis, and the level the index input now has. -/
  | indexEdge (h : Fin 8) (a : AxisId) (level : Bool)
  /-- HOMEFAIL (R57): heliostat and axis. -/
  | homefail (h : Fin 8) (a : AxisId)
  /-- DRIVE_FAULT (R58): heliostat, and the level DRVFLT now has, high being true. -/
  | driveFault (h : Fin 8) (level : Bool)
  /-- STOW_INPUT_CHANGE (R81, R82): the level STOWIN now has. -/
  | stowInputChange (level : Bool)
  /-- TRIP_EDGE (R133): the level TRIPIN now has. -/
  | tripEdge (level : Bool)
  /-- GENERATION_END (R134). -/
  | generationEnd
  /-- ACTIVATE_DETECTION (R130): the bit received. -/
  | activateDetection (bit : Bool)
  /-- RELEASE_DETECTION (R131): the bit received. -/
  | releaseDetection (bit : Bool)
  /-- DNI_PULSE (R157). -/
  | dniPulse
  /-- WINDOW_END (R158). -/
  | windowEnd
  /-- POWER_ON_RESET (R192): whether the power-on reset is now in force, and the levels the strap pins now have. -/
  | powerOnReset (input : PowerOnInput)
  /-- RESETN (R192): the level the RESETn pin now has, and the levels the strap pins now have. -/
  | resetn (input : ResetnInput)
  /-- LOAD_END (R184): the levels the strap pins have by now, and the bytes of the configuration memory from address 0
  (bytes beyond the list read as 0xFF). -/
  | loadEnd (straps : BitVec 9) (image : List Byte)
  /-- COMMAND_FRAME (R102): reference slot and entries in list order. -/
  | commandFrame (slot : Fin 8) (entries : List CommandEntry)
  /-- DETECTOR_LOCK (R127, R136): the bit received. -/
  | detectorLock (bit : Bool)
deriving DecidableEq, Repr

end Sys2Proof
end

