-- ==== Sys2Proof/Decode.lean ====
section
/-! DEFINITION. The TF7240 is a block that takes commands. No row of spec/opcode_table.json gives bits, so no word
spells a command. The byte layouts of frames and of the configuration image stand in Machine/Formats.lean. -/

namespace Sys2Proof

/-- The command that a word spells by the table's bits: none, since no row gives bits. -/
def decodeTableWord (_nbits _w : Nat) : Option Instr := none

end Sys2Proof
end

