-- ==== Sys2Proof/Machine/Arith.lean ====
section
/-! DEFINITION. The arithmetic of the scope file's section 5.2 and of chapter 2: rounding, saturation, exact square roots,
unit scaling, and the exactly rounded angles of a vector. Everything is exact integer arithmetic. -/

namespace Sys2Proof.Machine

/-- The largest value of a flux field, a counter or a pulse count: 65,535. -/
def max16 : Nat := 65535

/-- Saturating addition within 0 to 65,535 (section 5.2). -/
def satAdd (a b : Nat) : Nat := min (a + b) max16

/-- `x / d` rounded to the nearest integer, ties away from zero (section 5.2). -/
def roundDiv (x : Int) (d : Nat) : Int :=
  if 0 ≤ x then (((2 * x.toNat + d) / (2 * d) : Nat) : Int)
  else -(((2 * (-x).toNat + d) / (2 * d) : Nat) : Int)

/-- The value clamped to a range (section 5.2). -/
def clampTo (lo hi x : Int) : Int := if x < lo then lo else if hi < x then hi else x

/-- The bits of the integer square root, from the most significant. -/
def isqrtBits : Nat → Nat → Nat → Nat
  | 0, _, r => r
  | b + 1, n, r =>
    if (r + 2 ^ b) * (r + 2 ^ b) ≤ n then isqrtBits b n (r + 2 ^ b) else isqrtBits b n r

/-- The exact integer square root: the largest integer whose square does not exceed the argument (section 5.2). -/
def isqrt (n : Nat) : Nat := isqrtBits (Nat.log2 n / 2 + 1) n 0

def Vec3.add (a b : Vec3) : Vec3 := ⟨a.e + b.e, a.n + b.n, a.u + b.u⟩

def Vec3.sub (a b : Vec3) : Vec3 := ⟨a.e - b.e, a.n - b.n, a.u - b.u⟩

/-- The floored length of a vector (R24, R31). -/
def Vec3.length (v : Vec3) : Nat := isqrt (v.e * v.e + v.n * v.n + v.u * v.u).toNat

/-- The floored horizontal magnitude (R26). -/
def Vec3.horizontal (v : Vec3) : Nat := isqrt (v.e * v.e + v.n * v.n).toNat

/-- Unit scaling to Q14 (R24); none in the degenerate case m = 0. -/
def unitScale (v : Vec3) : Option Vec3 :=
  let m := Vec3.length v
  if m = 0 then none
  else some ⟨roundDiv (v.e * 16384) m, roundDiv (v.n * 16384) m, roundDiv (v.u * 16384) m⟩

/-- The next binary digits of the angle of (x, y), as a fraction of a quarter turn, for x above 0 and y not below 0.
Squaring x + iy doubles the angle, so each squaring yields one digit exactly. -/
def quarterDigits : Nat → Nat → Nat → Nat → Nat
  | 0, _, _, acc => acc
  | k + 1, x, y, acc =>
    if y * y < x * x then quarterDigits k (x * x - y * y) (2 * x * y) (2 * acc)
    else quarterDigits k (2 * x * y) (y * y - x * x) (2 * acc + 1)

/-- The angle of (x, y) in half angle units, rounded down: 32,768 of them make a quarter turn. -/
def quarterHalfUnits (x y : Nat) : Nat := quarterDigits 15 x y 0

/-- R27: the azimuth of the horizontal direction (e, n), in angle units clockwise from north, rounded to
the nearest with the halfway value going to the larger, 65,536 becoming 0. -/
def azimuthOf (e n : Int) : Nat :=
  let half :=
    if 0 ≤ e ∧ 0 < n then quarterHalfUnits n.toNat e.toNat
    else if 0 < e ∧ n ≤ 0 then 32768 + quarterHalfUnits e.toNat (-n).toNat
    else if e ≤ 0 ∧ n < 0 then 65536 + quarterHalfUnits (-n).toNat (-e).toNat
    else 98304 + quarterHalfUnits (-e).toNat n.toNat
  ((half + 1) / 2) % 65536

/-- R28: the elevation whose tangent is u / h, in angle units, rounded to the nearest, ties away from zero. -/
def elevationOf (u : Int) (h : Nat) : Int :=
  if 0 ≤ u then (((quarterHalfUnits h u.toNat + 1) / 2 : Nat) : Int)
  else -(((quarterHalfUnits h (-u).toNat + 1) / 2 : Nat) : Int)

/-- A difference of angles mapped into −32,768 to 32,767 (section 5.2). -/
def wrapAngle (x : Int) : Int :=
  let y := x % 65536
  if y < 32768 then y else y - 65536

/-- R39: the contribution estimate from planning irradiance, area, incidence cosine and delivery factor. -/
def estimateP (h area c delivery : Nat) : Nat := h * area * c * delivery / 3355443200

end Sys2Proof.Machine
end

