-- ==== Sys2Proof/Config.lean ====
section
/-! DEFINITION. The free values of the model: constants without a body, of which nothing can be proved.
Each stands for a value or an order that the spec leaves open; the assumption log names every use. -/

namespace Sys2Proof

/-- The count an axis holds after a step that would carry its position outside the signed 32-bit range.
R46 adds or subtracts one and says nothing of the ends of the range (log entry 11). -/
opaque Config.positionBeyondRange : Int → BitVec 32

/-- The level the aim bus shows in one microsecond: the first argument numbers the draw, the second is
what this station drives, if anything. Other users of the bus may drive at any time, so the level is
free (R86, R97; log entry 7). -/
opaque Config.lineLevel : Nat → Option Bool → Bool

/-- The rank of a due event among the events of one instant: draw number and place in the list.
Where the spec says that either of two events may be taken first, the order is free (log entry 8). -/
opaque Config.tieRank : Nat → Nat → Nat

/-- Whether the aim tick of an epoch start is taken before the Station Controller's tests of that same
epoch start (R20 allows both; log entry 10). -/
opaque Config.tickBeforeTests : Nat → Bool

/-- How many turns of an aim tick are taken in one microsecond (R21 bounds only their end; log entry 9). -/
opaque Config.turnsTaken : Nat → Nat

end Sys2Proof
end

