-- ==== Sys2Proof/Machine/State.lean ====
section
/-! DEFINITION. Everything the TF7240 holds, block by block (section 3.1 of the scope file), as plain data, and its
value right after a power-on reset. Each structure's docstring names the rule that gives it. -/

namespace Sys2Proof.Machine

/-- Why a run of the block stops with a fault. The spec gives every command an effect, and it names no
address, register or operand whose access stops the block, so there is no reason: no constructor. -/
inductive Fault where
deriving DecidableEq, Repr

/-- Why a command has no meaning. -/
inductive Refusal where
  /-- Raised by an arm of `exec` whose row has no meaning yet, with the row's mnemonic; no arm raises it now.
  Safe: the run stops where the hardware goes on. -/
  | notModelled (mnemonic : String)
deriving DecidableEq, Repr

/-! ## Axis drives (chapter 3) -/

/-- The direction of a step: the level of DIR, and the last step direction (R44 to R46). -/
inductive Dir where
  | neg
  | pos
deriving DecidableEq, Repr

/-- What an axis is doing (chapter 3, first table). -/
inductive DriveState where
  | rest
  | trackMode
  | slewAccel
  | slewDecel
  | reversing
  | homeBackoff
  | homeSearch
deriving DecidableEq, Repr

/-- The parameters of one axis, from the configuration image (R33, R43). -/
structure AxisParams where
  zero        : Int
  spt         : Nat
  softMin     : Int
  softMax     : Int
  startPeriod : Nat
  slewPeriod  : Nat
  trackPeriod : Nat
  homePeriod  : Nat
  rampDec     : Nat
  pulseWidth  : Nat
  fineWindow  : Nat
  backlash    : Nat
  indexPos    : Int
  slipTol     : Nat
  homeMax     : Nat
deriving DecidableEq, Repr

/-- One axis drive: its parameters, its registers (chapter 3, first table), its DIR output and the level
of its index input. -/
structure Axis where
  prm        : AxisParams
  position   : Int
  target     : Int
  drive      : DriveState
  period     : Nat
  counter    : Nat
  dir        : Dir
  lastDir    : Dir
  takeUp     : Nat
  phaseCount : Nat
  index      : Bool
deriving DecidableEq, Repr

/-! ## Heliostat records and demand records (chapters 1 and 4) -/

/-- The fault field of a heliostat (R6). -/
inductive HelioFault where
  | none
  | slip
  | homefail
  | drive
deriving DecidableEq, Repr

/-- The engaged level (R65, R68). -/
inductive Level where
  | none
  | stow
  | defocus
  | hold
  | standby
  | track
deriving DecidableEq, Repr

/-- The reported posture (R17). -/
inductive Posture where
  | absent
  | out
  | faulted
  | homing
  | moving
  | onTarget
deriving DecidableEq, Repr

/-- The configuration part of a heliostat record, less the axis parameters and the correction offsets (R1); `initialIn`
is the initial service state, IN being true. -/
structure HelioConfig where
  present       : Bool
  initialIn     : Bool
  pivot         : Vec3
  area          : Nat
  delivery      : Nat
  candidates    : List Nat
  defocusOffset : Int
  stow          : Steps
deriving DecidableEq, Repr

/-- One heliostat channel: its record (R1 to R10), its two axes, its homing order (R54), the part of
its demand record that is its own (R65: HOLD source with its target, engaged level, DEFOCUS snapshot), the
allocator's two P values (chapter 9) and the level of its DRVFLT input. -/
structure Helio where
  cfg        : HelioConfig
  dAz        : Int
  dEl        : Int
  inService  : Bool
  homed      : Bool
  fault      : HelioFault
  assignment : Option Nat
  deferred   : Option Nat
  placementP : Nat
  countedP   : Nat
  p          : Nat
  c          : Nat
  lastAz     : Nat
  lastEl     : Int
  limit      : Bool
  geom       : Bool
  az         : Axis
  el         : Axis
  homing     : Option AxisId
  hold       : Option Steps
  engaged    : Level
  snapshot   : Option Steps
  drvflt     : Bool
deriving DecidableEq, Repr

/-- The station-wide demand sources (R65, R66): each is set or withdrawn in all eight demand records
together, so it is held once. -/
structure Sources where
  stowLine   : Bool
  stowCmd    : Bool
  stowNight  : Bool
  code       : Bool
  rxTrip     : Bool
  sun        : Bool
  iso        : Bool
  silent     : Bool
  standbyCmd : Bool
  standbyRx  : Bool
deriving DecidableEq, Repr

/-! ## Configuration (R11, R19, R80, R110, R126, R138, R156, R182, R196) -/

/-- An entry of the aim-point table (R11). -/
structure AimPoint where
  zone : Nat
  pos  : Vec3
deriving DecidableEq, Repr

/-- The station-wide parameters and tables taken at the end of a load that passes. -/
structure StationConfig where
  aims       : List AimPoint
  standby    : Vec3
  stowEdge   : Bool
  dawnRehome : Bool
  aimPeriod  : Nat
  sunHorizon : Nat
  nightSu    : Int
  dawnSu     : Int
  rxStale    : Nat
  peerAgeMax : Nat
  isoEpochs  : Nat
  dniScale   : Nat
  dniDecay   : Nat
  dniFloor   : Nat
  dniDesign  : Nat
  cloudRatio : Nat
  activate   : List Bool
  release    : List Bool
  detectReps : Nat
  genMs      : Nat
deriving DecidableEq, Repr

/-! ## Bus Interface (chapter 5) -/

/-- The result of a taken command entry (chapter 5, section 5.7). -/
inductive Result where
  | done
  | busy
  | range
  | state
  | kind
deriving DecidableEq, Repr

/-- An outcome record of the queue, with its carried mark (R103, R105). -/
structure OutcomeRec where
  kind      : Byte
  heliostat : Byte
  result    : Result
  carried   : Bool
deriving DecidableEq, Repr

/-- The report request (R106). -/
inductive ReportRequest where
  | helio (h : Fin 8)
  | counters
deriving DecidableEq, Repr

/-- The ten counters, 0 to 65,535 each (R108). -/
structure Counters where
  crc          : Nat
  framing      : Nat
  length       : Nat
  slot         : Nat
  kind         : Nat
  collisions   : Nat
  resyncs      : Nat
  aborts       : Nat
  refused      : Nat
  indexResyncs : Nat
deriving DecidableEq, Repr

/-- Where the own frame of the station stands: no frame in the transmit buffer, built, or begun (R95, R96). -/
inductive TxPhase where
  | empty
  | built
  | sending
deriving DecidableEq, Repr

/-- The transmitter: the transmit buffer, how long the frame in it has been on the line (µs), the counter values it
carries (R107), and whether the station has built and has begun a frame in the epoch now running (R90, R95). -/
structure Transmitter where
  phase     : TxPhase
  bytes     : List Byte
  micros    : Nat
  counters  : Option Counters
  builtNow  : Bool
  begunNow  : Bool
deriving DecidableEq, Repr

/-- A slot that a frame may be recorded to begin in (R90): its number, and, where its epoch is over, whether the
station had begun its own frame in that epoch. -/
structure FrameSlot where
  number : Nat
  past   : Option Bool
deriving DecidableEq, Repr

/-- The receiver (R90): between frames or in a frame, whether that is the station's own frame, received from the start
bit it sent, the slot the frame began in, the first 192 bytes and the
count of all, whether every stop bit was 1, the bits of the character being read, how many idle bits have followed
the last stop bit, and the hold that follows a generation (R135). -/
structure Receiver where
  inFrame : Bool
  own     : Bool
  slot    : FrameSlot
  bytes   : List Byte
  count   : Nat
  stopsOk : Bool
  char    : Option (List Bool)
  idle    : Nat
  held    : Bool
deriving DecidableEq, Repr

/-- The line as the station samples it (R127): the level of the last microsecond, and the microsecond within
the bit cell, 0 or 1. -/
structure Line where
  level : Bool
  cell  : Nat
deriving DecidableEq, Repr

/-- What the epoch timer makes at this very instant (log entry 46): nothing; its own wrap or a slot start, which falls due;
or no longer what fell due, because a RESTART (R87) or a time mark that starts an epoch (R88) has put the timer to 0
first. -/
inductive TimerInstant where
  | plain
  | due
  | cut
deriving DecidableEq, Repr

/-- The Bus Interface (chapter 5, first table; R87 to R109). `slotBefore` is the slot that a slot start of this very
instant ended (R90), `timerInstant` what the timer
makes at this instant (R87, R88), and `epochNow` that an epoch start has been made at this instant (R191). -/
structure BusInterface where
  timer          : Nat
  epoch          : BitVec 32
  markWindow     : Bool
  missedMarks    : Nat
  markLost       : Bool
  quietSlots     : Nat
  busLost        : Bool
  heardEpoch     : Bool
  heardOwnSlot   : Bool
  inOwnSlot      : Bool
  mismatch       : Bool
  collisionMark  : Bool
  collisionRun   : Nat
  outcomes       : List OutcomeRec
  outcomesLost   : Bool
  lostSinceBuild : Bool
  report         : Option ReportRequest
  reportCarried  : Bool
  counters       : Counters
  tx             : Transmitter
  rx             : Receiver
  line           : Line
  slotBefore     : Option FrameSlot
  timerInstant   : TimerInstant
  epochNow       : Bool
deriving DecidableEq, Repr

/-! ## Reference Store (chapter 6) -/

/-- A valid sun record (R111). -/
structure SunRecord where
  s0    : Vec3
  r     : Vec3
  epoch : BitVec 32
deriving DecidableEq, Repr

/-- The receiver states (chapter 6, section 6.7). -/
inductive RxState where
  | cold
  | warming
  | operating
  | trip
deriving DecidableEq, Repr

/-- The flux limit and the measured flux of one zone, in FU. -/
structure ZoneFlux where
  limit    : Nat
  measured : Nat
deriving DecidableEq, Repr

/-- A valid receiver record (R119): `zones` has one entry per zone below the zone count. -/
structure RxRecord where
  state : RxState
  zones : List ZoneFlux
  epoch : BitVec 32
deriving DecidableEq, Repr

/-- The Reference Store (chapter 6, first table). -/
structure RefStore where
  sun        : Vector (Option SunRecord) 8
  nightCount : Nat
  receiver   : Option RxRecord
deriving DecidableEq, Repr

/-! ## Defocus Code Unit (chapter 7) -/

/-- A match-run detector (R127, R128): `history` holds the last bits received, oldest first, at most 8. -/
structure Detector where
  history : List Bool
  locked  : Bool
  phase   : Nat
  run     : Nat
deriving DecidableEq, Repr

/-- The Defocus Code Unit (chapter 7, first table); `genMicros` is the microsecond within the bit being sent. -/
structure DefocusUnit where
  active     : Bool
  generating : Bool
  genCount   : Nat
  genMicros  : Nat
  act        : Detector
  rel        : Detector
  slotMatch  : Bool
deriving DecidableEq, Repr

/-! ## Peer Table (chapter 8) -/

/-- One plan for a zone: in a peer entry (R139), in the published plan (chapter 9) or in the carried list. -/
structure PlanItem where
  zone    : Nat
  planned : Nat
  want    : Bool
deriving DecidableEq, Repr

/-- A valid peer entry (R139). -/
structure PeerEntry where
  station : Nat
  age     : Nat
  items   : List PlanItem
deriving DecidableEq, Repr

/-- A set of the peer table: two ways, an absent entry being invalid, and the LRU bit (true names way 1) (R139, R140). -/
structure PeerSet where
  way0 : Option PeerEntry
  way1 : Option PeerEntry
  lru  : Bool
deriving DecidableEq, Repr

/-- A residue record (R148, R149). -/
structure Residue where
  zone   : Nat
  value  : Nat
  expiry : BitVec 32
deriving DecidableEq, Repr

/-- The Peer Table (chapter 8, first table). -/
structure PeerTable where
  sets    : Vector PeerSet 32
  residue : List Residue
deriving DecidableEq, Repr

/-! ## Irradiance Monitor, Flux Allocator (chapter 9) -/

/-- The Irradiance Monitor (section 9.1): `running` says whether a window runs (R157, R161). -/
structure IrradianceMonitor where
  running : Bool
  timer   : Nat
  pulses  : Nat
  m       : Nat
  h       : Nat
  clouded : Bool
deriving DecidableEq, Repr

/-- The Flux Allocator (section 9.2), less what it holds per heliostat: the published plan records (a zone
that left the interest set keeps its value until the next completion, R13), the carried list, ZONE-SAT. -/
structure FluxAllocator where
  plan    : List PlanItem
  carried : List PlanItem
  zoneSat : Bool
deriving DecidableEq, Repr

/-! ## Station Controller, Alert Unit, Aim Computation Unit (chapters 10, 11, 2) -/

/-- The station states (chapter 10). -/
inductive StationState where
  | loading
  | configFault
  | syncing
  | operating
  | isolated
  | night
  | silent
deriving DecidableEq, Repr

/-- The Station Controller (chapter 10, first table) and the two reset inputs (R192); `listen` is the syncing phase,
what it holds outside SYNCING log entry 54. -/
structure StationController where
  state     : StationState
  listen    : Bool
  number    : Nat
  isoCount  : Nat
  por       : Bool
  inPowerOn : Bool
  inResetn  : Bool
deriving DecidableEq, Repr

/-- The Alert Unit (chapter 11, first table), each word in the bit order of R202. -/
structure AlertUnit where
  enable    : BitVec 16
  latches   : BitVec 16
  carried   : BitVec 16
  published : BitVec 16
deriving DecidableEq, Repr

/-- A tick in progress (R21, R42): the sun vector taken, the turn reached, and the microseconds since the tick. -/
structure TickProgress where
  sun    : Vec3
  turn   : Nat
  micros : Nat
deriving DecidableEq, Repr

/-- The Aim Computation Unit (R19, R42): the tick in progress, if any; whether the tick of the last epoch start is still
to be taken, and if so what the sun evaluation of that epoch start found, which that tick reaches too (R116); and whether
an epoch start has been made since the reset, from which on ticks are scheduled. -/
structure AimUnit where
  tick      : Option TickProgress
  due       : Option (Option Vec3)
  scheduled : Bool
deriving DecidableEq, Repr

/-- The state of a TF7240. `pending` is the queue of waiting commands and `draws` counts the free values
drawn so far; both are the model's own. `stowin` and `tripin` say whether the input is active; `straps` holds the
levels of the nine strap pins, bit i that of STRAPi, a high level reading as 1 (R206). -/
structure State where
  pending  : List Instr
  draws    : Nat
  cfg      : StationConfig
  helios   : Vector Helio 8
  interest : List Nat
  src      : Sources
  bi       : BusInterface
  rs       : RefStore
  dcu      : DefocusUnit
  pt       : PeerTable
  irm      : IrradianceMonitor
  fa       : FluxAllocator
  sc       : StationController
  au       : AlertUnit
  acu      : AimUnit
  stowin   : Bool
  tripin   : Bool
  straps   : BitVec 9
deriving DecidableEq, Repr

/-! ## Values after a power-on reset -/

def AxisParams.blank : AxisParams :=
  { zero := 0, spt := 0, softMin := 0, softMax := 0, startPeriod := 0, slewPeriod := 0, trackPeriod := 0
    homePeriod := 0, rampDec := 0, pulseWidth := 0, fineWindow := 0, backlash := 0, indexPos := 0
    slipTol := 0, homeMax := 0 }

/-- R63; parameters are blank until a load passes (log entry 4), the index input inactive (log entry 3). -/
def Axis.blank : Axis :=
  { prm := .blank, position := 0, target := 0, drive := .rest, period := 0, counter := 0, dir := .neg
    lastDir := .neg, takeUp := 0, phaseCount := 0, index := false }

/-- No heliostat is present until a load passes (log entry 4). -/
def HelioConfig.blank : HelioConfig :=
  { present := false, initialIn := false, pivot := ⟨0, 0, 0⟩, area := 0, delivery := 0, candidates := [], defocusOffset := 0
    stow := ⟨0, 0⟩ }

/-- R18, R63, R85, R179. -/
def Helio.blank : Helio :=
  { cfg := .blank, dAz := 0, dEl := 0, inService := false, homed := false, fault := .none
    assignment := none, deferred := none, placementP := 0, countedP := 0, p := 0, c := 0, lastAz := 0
    lastEl := 0, limit := false, geom := false, az := .blank, el := .blank, homing := none, hold := none
    engaged := .none, snapshot := none, drvflt := false }

/-- R85: no source is set. -/
def Sources.none : Sources :=
  { stowLine := false, stowCmd := false, stowNight := false, code := false, rxTrip := false, sun := false
    iso := false, silent := false, standbyCmd := false, standbyRx := false }

/-- The parameters before a load has passed (log entry 4). -/
def StationConfig.blank : StationConfig :=
  { aims := [], standby := ⟨0, 0, 0⟩, stowEdge := false, dawnRehome := false, aimPeriod := 0
    sunHorizon := 0, nightSu := 0, dawnSu := 0, rxStale := 0, peerAgeMax := 0, isoEpochs := 0
    dniScale := 0, dniDecay := 0, dniFloor := 0, dniDesign := 0, cloudRatio := 0, activate := []
    release := [], detectReps := 0, genMs := 0 }

/-- R108: every counter starts at 0. -/
def Counters.zero : Counters :=
  { crc := 0, framing := 0, length := 0, slot := 0, kind := 0, collisions := 0, resyncs := 0, aborts := 0
    refused := 0, indexResyncs := 0 }

/-- R109: nothing in the transmit buffer, nothing carried. -/
def Transmitter.clear : Transmitter :=
  { phase := .empty, bytes := [], micros := 0, counters := none, builtNow := false, begunNow := false }

/-- R109: between frames, the buffer empty. -/
def Receiver.clear : Receiver :=
  { inFrame := false, own := false, slot := { number := 0, past := none }, bytes := [], count := 0, stopsOk := true
    char := none, idle := 0, held := false }

/-- The line idles at 1 (R86; log entry 3). -/
def Line.idle : Line := { level := true, cell := 0 }

/-- R109. -/
def BusInterface.blank : BusInterface :=
  { timer := 0, epoch := 0, markWindow := false, missedMarks := 0, markLost := false, quietSlots := 0
    busLost := false, heardEpoch := false, heardOwnSlot := false, inOwnSlot := false, mismatch := false
    collisionMark := false, collisionRun := 0, outcomes := [], outcomesLost := false
    lostSinceBuild := false, report := none, reportCarried := false, counters := .zero, tx := .clear
    rx := .clear, line := .idle, slotBefore := none, timerInstant := .plain, epochNow := false }

/-- R125. -/
def RefStore.blank : RefStore :=
  { sun := Vector.replicate 8 none, nightCount := 0, receiver := none }

/-- R129, R137: history empty, searching, run 0. The manual gives the phase a value at a lock alone (R127); that it stands at
0 while the detector searches is the model's choice (log entry 50). -/
def Detector.clear : Detector := { history := [], locked := false, phase := 0, run := 0 }

/-- R137. -/
def DefocusUnit.blank : DefocusUnit :=
  { active := false, generating := false, genCount := 0, genMicros := 0, act := .clear, rel := .clear
    slotMatch := false }

/-- R155. -/
def PeerTable.blank : PeerTable :=
  { sets := Vector.replicate 32 { way0 := none, way1 := none, lru := false }, residue := [] }

/-- R161. -/
def IrradianceMonitor.blank : IrradianceMonitor :=
  { running := false, timer := 0, pulses := 0, m := 0, h := 0, clouded := false }

/-- R179. -/
def FluxAllocator.blank : FluxAllocator := { plan := [], carried := [], zoneSat := false }

/-- R195; the number is that of straps at 0 (log entry 3). -/
def StationController.blank : StationController :=
  { state := .loading, listen := false, number := 0, isoCount := 0, por := true, inPowerOn := false
    inResetn := false }

/-- R200; the enable mask is clear until a load passes (log entry 4). -/
def AlertUnit.blank : AlertUnit := { enable := 0, latches := 0, carried := 0, published := 0 }

/-- R42. -/
def AimUnit.blank : AimUnit := { tick := none, due := none, scheduled := false }

/-- The station right after a power-on reset has ended: the load has begun (R181), POR is set (R194), every other
item is at the value R18, R42, R63, R85, R109, R125, R137, R155, R161, R179, R195 and R200 give. -/
def State.reset : State :=
  { pending := [], draws := 0, cfg := .blank, helios := Vector.replicate 8 .blank, interest := []
    src := .none, bi := .blank, rs := .blank, dcu := .blank, pt := .blank, irm := .blank, fa := .blank
    sc := .blank, au := .blank, acu := .blank, stowin := false, tripin := false
    straps := 0 }

end Sys2Proof.Machine
end

