-- ==== Sys2Proof/Machine/Drive.lean ====
section
/-! DEFINITION. One axis drive by itself (chapter 3): the step generator, counted steps, moves, reversal, and the two
homing phases. Everything here reads and writes one axis. -/

namespace Sys2Proof.Machine

/-- STEP is active while the generator runs and the counter holds 1 to PULSE_WIDTH (R44). -/
def Axis.stepActive (a : Axis) : Bool :=
  a.period != 0 && 1 ≤ a.counter && a.counter ≤ a.prm.pulseWidth

/-- R44: the counter of a running generator reaches 0, and the step of the axis falls due. -/
def Axis.stepDue (a : Axis) : Bool := a.period != 0 && a.counter ≤ 1

/-- The axis is in one of the two homing phases (R55, R56). -/
def Axis.homingPhase (a : Axis) : Bool := a.drive == .homeBackoff || a.drive == .homeSearch

/-- The axis is in one of the three states of a move toward its target (R51). -/
def Axis.travelling (a : Axis) : Bool :=
  a.drive == .trackMode || a.drive == .slewAccel || a.drive == .slewDecel

/-- The remaining of the move in the direction DIR shows (R47). -/
def Axis.remaining (a : Axis) : Int :=
  match a.dir with
  | .pos => a.target - a.position
  | .neg => a.position - a.target

/-- A position after a step: as computed within the signed 32-bit range, free beyond it (log entry 11). -/
def fitPosition (x : Int) : Int :=
  if -2147483648 ≤ x ∧ x ≤ 2147483647 then x else (Config.positionBeyondRange x).toInt

/-- R46: one counted step in the direction DIR shows. -/
def Axis.countStep (a : Axis) : Axis :=
  let owed := if a.dir = a.lastDir then a.takeUp else a.prm.backlash
  let phase := if a.homingPhase then a.phaseCount + 1 else a.phaseCount
  let moved : Int := match a.dir with
    | .pos => a.position + 1
    | .neg => a.position - 1
  { a with
    lastDir := a.dir
    takeUp := owed - 1
    position := if owed = 0 then fitPosition moved else a.position
    phaseCount := phase }

/-- R45: the generator stops at once; a pulse in progress ends and its step counts. -/
def Axis.stopNow (a : Axis) : Axis :=
  if a.period = 0 then a
  else if a.stepActive then { a.countStep with period := 0, counter := 0 }
  else { a with period := 0 }

/-- R45: the generator is started with a period; a counter held above 0 counts on. -/
def Axis.startGenerator (a : Axis) (period : Nat) : Axis :=
  { a with period := period, counter := if a.counter = 0 then period else a.counter }

/-- R48: a move starts from REST toward a target that differs from position. -/
def Axis.startMove (a : Axis) : Axis :=
  if a.target = a.position then a
  else
    let b := { a with dir := if a.position < a.target then .pos else .neg }
    if (b.prm.fineWindow : Int) < b.remaining then
      ({ b with drive := .slewAccel } : Axis).startGenerator b.prm.startPeriod
    else ({ b with drive := .trackMode } : Axis).startGenerator b.prm.trackPeriod

/-- R52: entry into REVERSING, with the immediate stop and the move that follows it. -/
def Axis.enterReversing (a : Axis) : Axis :=
  if a.prm.startPeriod ≤ a.period ∧ a.stepActive = false then
    ({ a with period := 0, drive := .rest } : Axis).startMove
  else { a with drive := .reversing }

/-- R47, R51: a target written to an axis. -/
def Axis.writeTarget (a : Axis) (target : Int) : Axis :=
  let b := { a with target := target }
  match b.drive with
  | .rest => b.startMove
  | .trackMode =>
    if b.remaining ≤ 0 then b.enterReversing
    else if (b.prm.fineWindow : Int) < b.remaining then
      { b with drive := .slewAccel, period := b.prm.startPeriod }
    else b
  | .slewAccel | .slewDecel => if b.remaining ≤ 0 then b.enterReversing else b
  | .reversing | .homeBackoff | .homeSearch => b

/-- R59, R61, R64: the generator stops at once and the axis rests with its target at its position. -/
def Axis.halt (a : Axis) : Axis :=
  let b := a.stopNow
  { b with drive := .rest, target := b.position }

/-- R55, R56: an axis begins homing by sampling its index input. -/
def Axis.beginHoming (a : Axis) : Axis :=
  if a.index then
    ({ a with drive := .homeBackoff, dir := .pos, phaseCount := 0 } : Axis).startGenerator a.prm.homePeriod
  else
    ({ a with drive := .homeSearch, dir := .neg, phaseCount := 0 } : Axis).startGenerator a.prm.homePeriod

/-- R56: the rising index edge in HOME-SEARCH completes the axis's homing. After homing the
last step direction is negative, also where the edge comes before any counted step of the phase (log entry 41). -/
def Axis.finishHoming (a : Axis) : Axis :=
  { a.stopNow with position := a.prm.indexPos, target := a.prm.indexPos, drive := .rest, lastDir := .neg }

/-- R49, R50: the axis has arrived. -/
def Axis.arrive (a : Axis) : Axis := { a with drive := .rest, period := 0 }

/-- R50: ceil((START_PERIOD − p) / RAMP_DEC), the steps that would bring the period back to START_PERIOD. -/
def Axis.decelSteps (a : Axis) : Int := -(((a.period : Int) - a.prm.startPeriod) / a.prm.rampDec)

/-- R50: the decision of a slew after a counted step, from the remaining r and the period p in force. -/
def Axis.slewDecision (a : Axis) : Axis :=
  if a.remaining = 0 then a.arrive
  else if a.prm.rampDec = 0 then { a with drive := .slewAccel, period := a.prm.startPeriod }
  else if a.remaining ≤ a.decelSteps then
    { a with drive := .slewDecel, period := min (a.period + a.prm.rampDec) a.prm.startPeriod }
  else { a with drive := .slewAccel, period := max (a.period - a.prm.rampDec) a.prm.slewPeriod }

/-- R52: the decision of REVERSING after a counted step; a stop starts the next move at once. -/
def Axis.reversingDecision (a : Axis) : Axis :=
  if a.prm.startPeriod ≤ a.period then
    ({ a with drive := .rest, period := 0 } : Axis).startMove
  else { a with period := min (a.period + a.prm.rampDec) a.prm.startPeriod }

/-- R44: the drive state's decision for a counted step (R49, R50, R52, R55, R56). -/
def Axis.stepDecision (a : Axis) : Axis :=
  match a.drive with
  | .rest | .homeSearch => a
  | .trackMode => if a.remaining = 0 then a.arrive else a
  | .slewAccel | .slewDecel => a.slewDecision
  | .reversing => a.reversingDecision
  | .homeBackoff =>
    if a.index then a
    else { a with drive := .homeSearch, dir := .neg, phaseCount := 0, period := a.prm.homePeriod }

/-- R44: STEP goes inactive, the step counts and the drive state decides; the reload follows. -/
def Axis.stepAndDecide (a : Axis) : Axis :=
  (({ a with counter := 0 } : Axis).countStep).stepDecision

/-- R44: the counter is loaded from the period as it stands after the decision. -/
def Axis.reload (a : Axis) : Axis := { a with counter := a.period }

/-- R57: a homing phase has reached HOME_MAX counted steps without its end. -/
def Axis.homingExpired (a : Axis) : Bool := a.homingPhase && a.prm.homeMax ≤ a.phaseCount

/-- R53: the edge is checked while the generator runs with DIR negative in a move or in REVERSING. -/
def Axis.edgeChecked (a : Axis) : Bool :=
  a.period != 0 && a.dir == .neg && (a.travelling || a.drive == .reversing)

/-- R53: position differs from INDEX_POS by no more than SLIP_TOL. -/
def Axis.withinSlip (a : Axis) : Bool := (a.position - a.prm.indexPos).natAbs ≤ a.prm.slipTol

/-- R53: position becomes INDEX_POS, and a move left with nothing remaining reverses. -/
def Axis.resync (a : Axis) : Axis :=
  let b := { a with position := a.prm.indexPos }
  if b.travelling && b.remaining ≤ 0 then b.enterReversing else b

/-- A value clamped to the axis's soft limits. -/
def Axis.soft (a : Axis) (x : Int) : Int := clampTo a.prm.softMin a.prm.softMax x

/-- R64, R193: the values an axis takes at a RESTART, once a pulse in progress has counted. DIR is not among what R193 keeps
and takes its initial value, negative (R63; log entry 51). -/
def Axis.restart (a : Axis) : Axis := { a.halt with dir := .neg, phaseCount := 0 }

end Sys2Proof.Machine
end

