-- ==== Sys2Proof/Machine/Flags.lean ====
section
/-! DEFINITION. What the block derives from its registers whenever it is read: posture, mask, demanded level, DRVEN,
the thirteen status conditions and ALERT, and how a change of a condition sets its latch (R17, R60, R67, R68, R84, R196, R197). -/

namespace Sys2Proof.Machine

/-- A reset is in force: the power-on reset or the RESETn pin (R192). -/
def State.inReset (s : State) : Bool := s.sc.inPowerOn || s.sc.inResetn

/-- A station state other than LOADING and CONFIG-FAULT. -/
def StationState.loaded : StationState → Bool
  | .loading | .configFault => false
  | .syncing | .operating | .isolated | .night | .silent => true

/-- From the end of a load that passes until the next reset (R92, R113, R129, R154, R157, R197). -/
def State.running (s : State) : Bool := !s.inReset && s.sc.state.loaded

/-! ## Heliostats -/

/-- R17: the axis is at REST with position equal to target. -/
def Axis.settled (a : Axis) : Bool := a.drive == .rest && a.position == a.target

/-- R17: the first line of the table that applies. -/
def Helio.posture (h : Helio) : Posture :=
  if !h.cfg.present then .absent
  else if !h.inService then .out
  else if h.fault != .none then .faulted
  else if !h.homed then .homing
  else if h.az.settled && h.el.settled then .onTarget
  else .moving

/-- Present, in service and without a recorded fault. -/
def Helio.usable (h : Helio) : Bool := h.cfg.present && h.inService && h.fault == .none

/-- R60, for a station that is not in CONFIG-FAULT: the driver enable of the heliostat. -/
def Helio.enabled (h : Helio) : Bool := h.usable && (h.homed || h.homing.isSome)

/-- R67: the heliostat is masked; `loaded` is the station's part of the mask. -/
def Helio.masked (h : Helio) (loaded : Bool) : Bool := !(loaded && h.usable && h.homed)

/-- R68: the highest level whose demand is set. -/
def demandedLevel (src : Sources) (hold : Bool) : Level :=
  if src.stowLine || src.stowCmd || src.stowNight then .stow
  else if src.code || src.rxTrip || src.sun || src.iso || src.silent then .defocus
  else if hold then .hold
  else if src.standbyCmd || src.standbyRx then .standby
  else .track

/-- R68: the level that governs the heliostat. -/
def Helio.governing (h : Helio) (src : Sources) (loaded : Bool) : Level :=
  if h.masked loaded then .none else demandedLevel src h.hold.isSome

/-- R22: the ACU computes for a heliostat that is in service, homed and without a fault. -/
def Helio.computed (h : Helio) : Bool := h.usable && h.homed

/-- R168: the heliostat is eligible at an allocation. -/
def Helio.eligible (h : Helio) : Bool := h.usable && h.homed && h.engaged == .track

/-- The driver enable output of a heliostat (R60, R192). -/
def State.drven (s : State) (i : Fin 8) : Bool :=
  !s.inReset && s.sc.state != .configFault && s.helios[i].enabled

/-! ## Status conditions and latches -/

/-- R84: some heliostat is engaged at STOW. -/
def State.stowActive (s : State) : Bool := s.helios.toList.any fun h => h.engaged == .stow

/-- R84: there is a present, in-service, unfaulted heliostat, and every such one is at STOW and ON-TARGET. -/
def State.stowComplete (s : State) : Bool :=
  (s.helios.toList.any fun h => h.usable) &&
    (s.helios.toList.all fun h => !h.usable || (h.engaged == .stow && h.posture == .onTarget))

/-- R6, R196: a fault is recorded for some heliostat. -/
def State.helioFault (s : State) : Bool := s.helios.toList.any fun h => h.fault != .none

/-- R10, R196: the LIMIT flag of some heliostat is set. -/
def State.limitAny (s : State) : Bool := s.helios.toList.any fun h => h.limit

/-- The status conditions as they stand, in the bit order of R202, bit 0 first. In LOADING and CONFIG-FAULT
SUN-LOST and RX-STALE do not hold (R124). -/
def State.conditionList (s : State) : List Bool :=
  [ s.bi.busLost, s.bi.markLost, s.sc.state == .isolated, s.running && s.src.sun,
    s.running && s.rs.receiver.isNone, s.dcu.active, s.stowActive, s.stowComplete,
    s.helioFault, s.irm.clouded, s.fa.zoneSat, s.limitAny,
    s.sc.por, false, false, false ]

/-- The status conditions as the word of R202. -/
def State.conditions (s : State) : BitVec 16 := BitVec.ofBoolListLE s.conditionList

/-- R197: every change of an enabled condition sets its latch and clears its carried and published marks. -/
def AlertUnit.latch (au : AlertUnit) (before after : BitVec 16) : AlertUnit :=
  let changed := (before ^^^ after) &&& au.enable
  { au with
    latches := au.latches ||| changed
    carried := au.carried &&& ~~~changed
    published := au.published &&& ~~~changed }

/-- R196, R197: what the Alert Unit sees of one change of the station, from the end of a load that passes on. -/
def State.observed (s s' : State) : State :=
  if s.running && s'.running then { s' with au := s'.au.latch s.conditions s'.conditions } else s'

/-- R198: the ALERT line is driven low. -/
def State.alertLow (s : State) : Bool :=
  !s.inReset && (s.au.latches != 0 || s.sc.state == .configFault)

end Sys2Proof.Machine
end

