-- ==== Sys2Proof/Machine/Operands.lean ====
section
/-! DEFINITION. How the operand fields of commands and frames are read: the heliostat field, signed parameters, code
values (R201 to R204), and the fields of the aim-point table that other blocks look up. -/

namespace Sys2Proof.Machine

/-- The value of a heliostat field that means all heliostats, or none, or the counters (section 5.3). -/
def allHeliostats : Byte := 255

/-- The heliostat index a field names: none for 8 and above, 0xFF included (R14, R73). -/
def helioIndex (hf : Byte) : Option (Fin 8) :=
  if h : hf.toNat < 8 then some ⟨hf.toNat, h⟩ else none

/-- The heliostat index a field names, where that heliostat is present (R3). -/
def State.presentIndex (s : State) (hf : Byte) : Option (Fin 8) :=
  match helioIndex hf with
  | none => none
  | some i => if s.helios[i].cfg.present then some i else none

/-- A pin at low level, and a pin at high level. -/
abbrev pinLow : Bool := false

@[inherit_doc pinLow] abbrev pinHigh : Bool := true

/-- R206: whether an active-low input (RESETn, STOWIN, TRIPIN, DRVFLT) is active at a level. -/
def activeLow (level : Bool) : Bool := !level

/-- R206: whether an active-high input (AZIDX, ELIDX) is active at a level. -/
def activeHigh (level : Bool) : Bool := level

/-- A parameter read as a signed 32-bit value (R16, R73). -/
def signedParam (w : Word) : Int := w.toInt

/-- A two-byte signed field (R111, R202). -/
def signedHalf (w : Half) : Int := w.toInt

/-- The three signed components of a SUN frame's vector (R111). -/
def signedVec (v : FrameVec) : Vec3 := ⟨signedHalf v.e, signedHalf v.n, signedHalf v.u⟩

/-- R204: outcome codes. -/
def Result.code : Result → Nat
  | .done => 0
  | .busy => 1
  | .range => 2
  | .state => 3
  | .kind => 4

/-- R204: the receiver state a byte names, if any. -/
def rxStateOf (b : Byte) : Option RxState :=
  match b.toNat with
  | 0 => some .cold
  | 1 => some .warming
  | 2 => some .operating
  | 3 => some .trip
  | _ => none

/-- R204: station state codes; only the states that send have one. -/
def StationState.code : StationState → Nat
  | .operating => 1
  | .isolated => 2
  | .night => 3
  | .loading | .configFault | .syncing | .silent => 0

/-- R204: engaged level codes. -/
def Level.code : Level → Nat
  | .none => 0
  | .stow => 1
  | .defocus => 2
  | .hold => 3
  | .standby => 4
  | .track => 5

/-- R204: posture codes. -/
def Posture.code : Posture → Nat
  | .absent => 0
  | .out => 1
  | .faulted => 2
  | .homing => 3
  | .moving => 4
  | .onTarget => 5

/-- R204: fault codes. -/
def HelioFault.code : HelioFault → Nat
  | .none => 0
  | .slip => 1
  | .homefail => 2
  | .drive => 3

/-- The zone of an aim point of the table, if the index is below the entry count (R11). -/
def StationConfig.zoneOf (cfg : StationConfig) (ap : Nat) : Option Nat :=
  match cfg.aims[ap]? with
  | none => none
  | some a => some a.zone

/-- One of the two axes of a heliostat. -/
def Helio.axis (h : Helio) : AxisId → Axis
  | .az => h.az
  | .el => h.el

/-- A heliostat with one of its axes replaced. -/
def Helio.setAxis (h : Helio) (a : AxisId) (x : Axis) : Helio :=
  match a with
  | .az => { h with az := x }
  | .el => { h with el := x }

end Sys2Proof.Machine
end

