-- ==== Sys2Proof/Machine/Ops.lean ====
section
/-! DEFINITION. The shared operations on the state: engaged levels, sources, faults and homing of a heliostat,
the end of the own frame, the outcome queue, the interest set, changes of the station state, and the three resets. -/

namespace Sys2Proof.Machine

/-! ## One heliostat: levels, faults, homing -/

/-- R69: what the Override Controller does as a heliostat leaves its engaged level. -/
def Helio.leave (h : Helio) : Helio :=
  match h.engaged with
  | .track => { h with assignment := none, deferred := none, placementP := 0 }
  | .defocus => { h with snapshot := none }
  | .none | .stow | .hold | .standby => h

/-- R47: targets written to both axes of a heliostat. -/
def Helio.writeTargets (h : Helio) (t : Steps) : Helio :=
  { h with az := h.az.writeTarget t.az, el := h.el.writeTarget t.el }

/-- Each step count clamped to its own axis's soft limits (R71, R73). -/
def Helio.softSteps (h : Helio) (t : Steps) : Steps := ⟨h.az.soft t.az, h.el.soft t.el⟩

/-- R71: the positions of the two axes, the elevation raised by the defocus offset, before the clamp. R78 speaks of a snapshot
from the stow posture that is reached or travelled to: the model takes the positions there too, of an axis that still
travels as of one at rest (log entry 53). -/
def Helio.defocusPoint (h : Helio) : Steps := ⟨h.az.position, h.el.position + h.cfg.defocusOffset⟩

/-- R70 to R72: what the Override Controller does as a heliostat enters a level. -/
def Helio.enter (h : Helio) (l : Level) : Helio :=
  match l with
  | .stow => ({ h with engaged := .stow } : Helio).writeTargets h.cfg.stow
  | .defocus =>
    let t := h.softSteps h.defocusPoint
    ({ h with engaged := .defocus, snapshot := some t, limit := h.limit || t != h.defocusPoint } : Helio).writeTargets t
  | .hold =>
    match h.hold with
    | none => { h with engaged := .hold }
    | some t => ({ h with engaged := .hold } : Helio).writeTargets t
  | .none => { h with engaged := .none }
  | .standby => { h with engaged := .standby }
  | .track => { h with engaged := .track }

/-- R68: the engaged level recomputed, with the actions of leaving the old level and entering the new one. -/
def Helio.reengage (h : Helio) (src : Sources) (loaded : Bool) : Helio :=
  if h.governing src loaded = h.engaged then h
  else h.leave.enter (h.governing src loaded)

/-- R6, R59: a fault is detected; the first one is recorded and stops both axes. -/
def Helio.detect (h : Helio) (k : HelioFault) : Helio :=
  if h.fault = .none then
    { h with fault := k, homed := false, deferred := none, placementP := 0, homing := none
             az := h.az.halt, el := h.el.halt }
  else h

/-- R54, R62: a homing start, the generators stopped first; DRVEN going active while DRVFLT is active is a
DRIVE fault (R58). The spec leaves the order of that fault and of the first phase open: here the phase begins first, so
that DIR and a counter loaded from 0 keep the phase's values under the fault (the model's choice, log entry 47). -/
def Helio.homingStart (h : Helio) : Helio :=
  let b := { h with homed := false, homing := some .el, az := { h.az.stopNow with drive := .rest }
                    el := h.el.stopNow.beginHoming }
  if h.drvflt then b.detect .drive else b

/-- R56: the index edge completes the homing of one axis; the azimuth axis follows the elevation axis, and
homed becomes true when both have completed. -/
def Helio.homingEdge (h : Helio) (a : AxisId) : Helio :=
  match a with
  | .el => { h with el := h.el.finishHoming, az := h.az.beginHoming, homing := some .az }
  | .az => { h with az := h.az.finishHoming, homing := none, homed := true }

/-- R57: the phase of an axis has reached HOME_MAX without its end. -/
def Helio.homefailTest (h : Helio) (a : AxisId) : Helio :=
  if (h.axis a).homingExpired then h.detect .homefail else h

/-- R14, R61: a heliostat is taken out of service. -/
def Helio.takeOut (h : Helio) : Helio :=
  { h with inService := false, homed := false, assignment := none, deferred := none, placementP := 0
           homing := none, az := h.az.halt, el := h.el.halt }

/-- R15: a heliostat is returned to service, less its homing start; it is not homed, as no heliostat is that is OUT (R5). -/
def Helio.takeIn (h : Helio) : Helio := { h with fault := .none, inService := true, homed := false }

/-- R62: a REHOME that is taken. -/
def Helio.rehome (h : Helio) : Helio := ({ h with fault := .none } : Helio).homingStart

/-! ## Outputs of the drives -/

/-- R3, R44, R192: the STEP output of an axis is active. -/
def State.stepOut (s : State) (i : Fin 8) (a : AxisId) : Bool :=
  !s.inReset && s.helios[i].cfg.present && (s.helios[i].axis a).stepActive

/-- R3, R192, R206: the DIR output of an axis shows the positive direction. -/
def State.dirOut (s : State) (i : Fin 8) (a : AxisId) : Bool :=
  !s.inReset && s.helios[i].cfg.present && (s.helios[i].axis a).dir == .pos

/-! ## The Override Controller over all heliostats -/

/-- A heliostat of the state replaced, its engaged level recomputed (R68). -/
def State.updateHelio (s : State) (i : Fin 8) (f : Helio → Helio) : State :=
  { s with helios := s.helios.set i ((f s.helios[i]).reengage s.src s.sc.state.loaded) }

/-- R68: the engaged level of every heliostat is recomputed. -/
def State.reengageAll (s : State) : State :=
  { s with helios := mapEach (fun _ h => h.reengage s.src s.sc.state.loaded) s.helios }

/-- R65, R68: station-wide sources are set or withdrawn, in all eight records together. -/
def State.setSources (s : State) (f : Sources → Sources) : State :=
  ({ s with src := f s.src } : State).reengageAll

/-- One change of the station, as the Alert Unit sees it (R197). -/
def State.change (s : State) (f : State → State) : State := s.observed (f s)

/-- A change that is made only from the end of a load that passes until the next reset. -/
def State.ifRunning (s : State) (f : State → State) : State := if s.running then f s else s

/-! ## Bus Interface: counters, outcomes, the end of the own frame -/

/-- R108: a counter increases by one and stays at 65,535. -/
def bump (n : Nat) : Nat := satAdd n 1

/-- The counters replaced. -/
def State.count (s : State) (f : Counters → Counters) : State :=
  { s with bi := { s.bi with counters := f s.bi.counters } }

/-- R104: an outcome joins the queue; at a full queue the oldest is removed and OUTCOMES-LOST set. -/
def BusInterface.addOutcome (bi : BusInterface) (o : OutcomeRec) : BusInterface :=
  if bi.outcomes.length < 4 then { bi with outcomes := bi.outcomes ++ [o] }
  else { bi with outcomes := bi.outcomes.drop 1 ++ [o], outcomesLost := true, lostSinceBuild := true }

/-- R103: a taken entry's outcome record joins the queue, and an outcome other than DONE is counted. -/
def State.answer (s : State) (kind hf : Byte) (r : Result) : State :=
  let counters :=
    if r = .done then s.bi.counters else { s.bi.counters with refused := bump s.bi.counters.refused }
  { s with bi := { (s.bi.addOutcome ⟨kind, hf, r, false⟩) with counters := counters } }

/-- R103: a command entry taken by its owner and answered, with the heliostat field as received whatever the
kind and the outcome (log entry 42). -/
def State.takeCommand (s : State) (kind hf : Byte) (f : State → Result × State) : State :=
  (s.change fun s => (f s).2).answer kind hf (f s).1

/-- The transmitter with its buffer emptied (R96, R101). -/
def Transmitter.emptied (tx : Transmitter) : Transmitter :=
  { tx with phase := .empty, bytes := [], micros := 0, counters := none }

/-- R101, R175: what an aborted frame and a withheld frame leave: deferred placements and carried marks gone, the
queue, the request and the published plan kept. -/
def State.discardFrame (s : State) : State :=
  { s with
    helios := mapEach (fun _ h => { h with deferred := none, placementP := 0 }) s.helios
    fa := { s.fa with carried := [] }
    au := { s.au with carried := 0 }
    bi := { s.bi with
      outcomes := s.bi.outcomes.map fun o => { o with carried := false }
      reportCarried := false
      tx := s.bi.tx.emptied } }

/-- R90: the own frame in reception is released by an abort, from which the line must then stay idle for 40 µs; the
frame of another user in reception is read on. -/
def Receiver.abandon (rx : Receiver) : Receiver := if rx.own then { rx with char := none, idle := 0 } else rx

/-- R97, R100: a frame that has begun is aborted and counted. -/
def State.abortFrame (s : State) : State :=
  let t := s.discardFrame.count fun c => { c with aborts := bump c.aborts }
  { t with bi := { t.bi with rx := t.bi.rx.abandon } }

/-- R97, R100: the own frame ends otherwise than by completion: aborted where it has begun, withheld where it is
built and not begun. -/
def State.cutFrame (s : State) : State :=
  match s.bi.tx.phase with
  | .empty => s
  | .built => s.discardFrame
  | .sending => s.abortFrame

/-- R95: the station state and the epoch allow a frame. -/
def State.frameAllowed (s : State) : Bool :=
  match s.sc.state with
  | .operating | .isolated => true
  | .night => s.bi.epoch.toNat % 16 == 0
  | .loading | .configFault | .syncing | .silent => false

/-! ## Interest set -/

/-- R12: the zones of every candidate aim point of every heliostat that is present and in service. -/
def State.interestZones (s : State) : List Nat :=
  (List.range 32).filter fun z =>
    s.helios.toList.any fun h =>
      h.cfg.present && h.inService && h.cfg.candidates.any fun ap => s.cfg.zoneOf ap == some z

/-- The item of a list for a zone. -/
def itemFor (l : List PlanItem) (z : Nat) : Option PlanItem := l.find? fun i => i.zone == z

/-- The planned value a list holds for a zone, 0 where it holds none. -/
def plannedFor (l : List PlanItem) (z : Nat) : Nat :=
  match itemFor l z with
  | none => 0
  | some i => i.planned

/-- The want flag a list holds for a zone, clear where it holds none. -/
def wantFor (l : List PlanItem) (z : Nat) : Bool :=
  match itemFor l z with
  | none => false
  | some i => i.want

/-- R13: an entry loses the items of departed zones, and is invalidated when none is left. -/
def restrictEntry (zones : List Nat) : Option PeerEntry → Option PeerEntry
  | none => none
  | some e =>
    let kept := e.items.filter fun i => zones.contains i.zone
    if kept.isEmpty then none else some { e with items := kept }

/-- R13: residue records follow the interest set; an added zone starts with residue 0, and, as the model's choice,
with expiry epoch 0 (log entry 44). -/
def PeerTable.follow (pt : PeerTable) (zones : List Nat) : PeerTable :=
  { sets := mapEach (fun _ st =>
      { st with way0 := restrictEntry zones st.way0, way1 := restrictEntry zones st.way1 }) pt.sets
    residue := zones.map fun z =>
      match pt.residue.find? fun r => r.zone == z with
      | none => { zone := z, value := 0, expiry := 0 }
      | some r => r }

/-- R13: published plan records follow the interest set; a departed zone keeps its value, without its want flag. -/
def followPlan (plan : List PlanItem) (zones : List Nat) : List PlanItem :=
  (plan.map fun i => { i with want := i.want && zones.contains i.zone }) ++
    ((zones.filter fun z => (itemFor plan z).isNone).map fun z => { zone := z, planned := 0, want := false })

/-- R12, R13: the interest set is computed afresh, with the effects on the Peer Table and the Flux Allocator. -/
def State.recomputeInterest (s : State) : State :=
  { s with
    interest := s.interestZones
    pt := s.pt.follow s.interestZones
    fa := { s.fa with plan := followPlan s.fa.plan s.interestZones } }

/-! ## Station states -/

/-- R161: the irradiance windows stop on entering NIGHT, the timer at 0 as the model's choice (log entry 45), and start
afresh on leaving it. -/
def IrradianceMonitor.follow (irm : IrradianceMonitor) (old new : StationState) : IrradianceMonitor :=
  if old = new then irm
  else if new = .night then { irm with running := false, timer := 0, pulses := 0 }
  else if old = .night then { irm with running := true, timer := 0, pulses := 0 }
  else irm

/-- A change among the states that follow a load, with the irradiance windows (R161) and the end of an own frame
that the new state does not allow (R100). -/
def State.toState (s : State) (new : StationState) : State :=
  let t := { s with sc := { s.sc with state := new }, irm := s.irm.follow s.sc.state new }
  if t.frameAllowed then t else t.cutFrame

/-- R191: entry into SILENT. -/
def State.becomeSilent (s : State) : State :=
  let t := s.toState .silent
  ({ t with sc := { t.sc with isoCount := 0 } } : State).setSources fun src => { src with silent := true }

/-- R187: entry into ISOLATED. -/
def State.becomeIsolated (s : State) : State :=
  let t := s.toState .isolated
  ({ t with sc := { t.sc with isoCount := 0 } } : State).setSources fun src => { src with iso := true }

/-- R189: entry into NIGHT. -/
def State.becomeNight (s : State) : State :=
  (s.toState .night).setSources fun src => { src with stowNight := true }

/-- R188: the station leaves ISOLATED. -/
def State.leaveIsolated (s : State) : State :=
  (s.toState (if s.src.stowNight then .night else .operating)).setSources fun src => { src with iso := false }

/-! ## Resets -/

/-- R18, R63: a heliostat channel after a power-on reset or RESETn; its input pins show what they show. -/
def Helio.cleared (h : Helio) : Helio :=
  { Helio.blank with
    drvflt := h.drvflt
    az := { Axis.blank with index := h.az.index }
    el := { Axis.blank with index := h.el.index } }

/-- R18, R64, R85: a heliostat channel at RESTART. -/
def Helio.restart (h : Helio) : Helio :=
  { h with
    assignment := none, deferred := none, placementP := 0, countedP := 0, p := 0, c := 0, lastAz := 0
    lastEl := 0, limit := false, geom := false, homing := none, hold := none, engaged := .none
    snapshot := none, az := h.az.restart, el := h.el.restart }

/-- R180, R181: a load begins, and the station number is that of the strap pins as they stand. -/
def State.sampleStraps (s : State) : State := { s with sc := { s.sc with number := s.straps.toNat } }

/-- R192, R195: every block takes its power-on or RESETn values; the input pins and the queue of waiting
commands are not part of the station. -/
def State.hardReset (s : State) : State :=
  { State.reset with
    pending := s.pending
    draws := s.draws
    helios := mapEach (fun _ h => h.cleared) s.helios
    sc := { StationController.blank with
      number := s.sc.number, por := s.sc.por, inPowerOn := s.sc.inPowerOn, inResetn := s.sc.inResetn }
    stowin := s.stowin
    tripin := s.tripin
    straps := s.straps
    bi := { BusInterface.blank with line := s.bi.line } }

/-- R193: every block takes its RESTART values and a load begins; events of this very instant are no epoch start and no
slot start (R87). -/
def State.softReset (s : State) : State :=
  ({ s with
    helios := mapEach (fun _ h => h.restart) s.helios
    interest := []
    src := .none
    bi := { BusInterface.blank with line := s.bi.line, timerInstant := .cut }
    rs := .blank
    dcu := .blank
    pt := .blank
    irm := .blank
    fa := .blank
    sc := { s.sc with state := .loading, listen := false, isoCount := 0 }
    au := .blank
    acu := .blank } : State).sampleStraps

end Sys2Proof.Machine
end

