-- ==== Sys2Proof/Machine/Code.lean ====
section
/-! DEFINITION. The Defocus Code Unit (chapter 7): the two detectors bit by bit, the code state, generation. -/

namespace Sys2Proof.Machine

/-- R127: the history with a bit added, at most the last 8. -/
def addHistory (history : List Bool) (bit : Bool) : List Bool :=
  (history ++ [bit]).drop (history.length + 1 - 8)

/-- R127: the last L bits of the history, oldest first, agree with the pattern. -/
def matchesPattern (pattern history : List Bool) : Bool :=
  pattern.length ≤ history.length && history.drop (history.length - pattern.length) == pattern

/-- R127, R128: a searching detector compares its history. That the phase stands at 0 where it does not lock is the model's
choice (log entry 50). -/
def Detector.search (pattern : List Bool) (history : List Bool) : Detector :=
  if matchesPattern pattern history then { history := history, locked := true, phase := 0, run := pattern.length }
  else { history := history, locked := false, phase := 0, run := 0 }

/-- R128: a locked detector's bit equals the pattern bit at the phase. -/
def Detector.follows (d : Detector) (pattern : List Bool) (bit : Bool) : Bool :=
  d.locked && pattern[d.phase]? == some bit

/-- R127, R128: a detector takes a bit received; `threshold` is DETECT_REPS × L. -/
def Detector.receive (d : Detector) (pattern : List Bool) (threshold : Nat) (bit : Bool) : Detector :=
  let history := addHistory d.history bit
  if d.follows pattern bit then
    { history := history, locked := true, phase := (d.phase + 1) % pattern.length, run := min (d.run + 1) threshold }
  else Detector.search pattern history

/-- R128: the bit is one at which the run reaches the threshold from below: by a further matching bit, or by the
lock itself where one instance is enough. -/
def Detector.detects (d : Detector) (pattern : List Bool) (threshold : Nat) (bit : Bool) : Bool :=
  threshold ≤ (d.receive pattern threshold bit).run && (!d.follows pattern bit || d.run < threshold)

/-- R126: the threshold of a pattern. -/
def StationConfig.threshold (cfg : StationConfig) (pattern : List Bool) : Nat := cfg.detectReps * pattern.length

/-- R136: either detector holds a run of at least the length of its own pattern. -/
def DefocusUnit.patternHeld (d : DefocusUnit) (cfg : StationConfig) : Bool :=
  cfg.activate.length ≤ d.act.run || cfg.release.length ≤ d.rel.run

/-- R127 to R129: the detectors take bits from the end of a load that passes, and not while generating. -/
def State.listening (s : State) : Bool := s.running && !s.dcu.generating

/-- R135: the receiver stays held after a generation until the line has been idle for 40 µs, twenty bits. -/
def Receiver.countIdle (rx : Receiver) (bit : Bool) : Receiver :=
  if rx.held then
    if bit then (if 20 ≤ rx.idle + 1 then Receiver.clear else { rx with idle := rx.idle + 1 })
    else { rx with idle := 0 }
  else rx

/-- R127, R128, R135, R136: both detectors take a bit received, the slot-match mark follows in the own slot, and a
held receiver counts idle bits. -/
def State.feedBit (s : State) (bit : Bool) : State :=
  let d := { s.dcu with
    act := s.dcu.act.receive s.cfg.activate (s.cfg.threshold s.cfg.activate) bit
    rel := s.dcu.rel.receive s.cfg.release (s.cfg.threshold s.cfg.release) bit }
  { s with
    dcu := { d with slotMatch := d.slotMatch || (s.bi.inOwnSlot && d.patternHeld s.cfg) }
    bi := { s.bi with rx := s.bi.rx.countIdle bit } }

/-- R128: the next bit brings a detection of the activate pattern. -/
def State.activateDetected (s : State) (bit : Bool) : Bool :=
  s.dcu.act.detects s.cfg.activate (s.cfg.threshold s.cfg.activate) bit

/-- R128: the next bit brings a detection of the release pattern. -/
def State.releaseDetected (s : State) (bit : Bool) : Bool :=
  s.dcu.rel.detects s.cfg.release (s.cfg.threshold s.cfg.release) bit

/-- R130: the code state becomes ACTIVE and CODE is set; nothing where it is ACTIVE. -/
def State.activateCode (s : State) : State :=
  if s.dcu.active then s
  else ({ s with dcu := { s.dcu with active := true } } : State).setSources fun src => { src with code := true }

/-- R131: the code state becomes IDLE and CODE is withdrawn; nothing where it is IDLE. -/
def State.releaseCode (s : State) : State :=
  if s.dcu.active then
    ({ s with dcu := { s.dcu with active := false } } : State).setSources fun src => { src with code := false }
  else s

/-- R127 to R131: a bit received. Where a detection of each pattern falls on it, `activateFirst` says which
reaches the code state first. -/
def State.receiveBit (s : State) (activateFirst bit : Bool) : State :=
  if s.listening then
    let fed := s.feedBit bit
    let onActivate := fun t : State => if s.activateDetected bit then t.change State.activateCode else t
    let onRelease := fun t : State => if s.releaseDetected bit then t.change State.releaseCode else t
    if activateFirst then onRelease (onActivate fed) else onActivate (onRelease fed)
  else s

/-- R133, R135: a generation starts: the detectors are held, the code state becomes ACTIVE, the own frame is
aborted or withheld, and the receiver drops what it was receiving. -/
def State.startGeneration (s : State) : State :=
  let cut := s.cutFrame
  let held := { cut with
    dcu := { cut.dcu with
      generating := true, genCount := cut.cfg.genMs * 500, genMicros := 0, act := .clear, rel := .clear }
    bi := { cut.bi with rx := { Receiver.clear with held := true } } }
  held.activateCode

/-- R134: the generation ends: the line is released and the detectors resume from an empty history. -/
def State.endGeneration (s : State) : State :=
  if s.dcu.generating then
    { s with dcu := { s.dcu with
        generating := false, genCount := 0, genMicros := 0, act := .clear, rel := .clear } }
  else s

end Sys2Proof.Machine
end

