-- ==== Sys2Proof/Machine/Formats.lean ====
section
/-! DEFINITION. Byte layouts (chapter 12): the CRC, the checks a received frame passes, the contribution frame the
station builds, and the report records. The configuration image is in Machine/Image.lean. -/

namespace Sys2Proof.Machine

/-! ## Bytes and the CRC (R201) -/

/-- A two-byte field, least significant byte first. -/
def half (lo hi : Byte) : Half := hi ++ lo

/-- A four-byte field, least significant byte first. -/
def word (b0 b1 b2 b3 : Byte) : Word := b3 ++ b2 ++ b1 ++ b0

/-- The bytes of a two-byte field. -/
def halfBytes (n : Nat) : List Byte := [BitVec.ofNat 8 n, BitVec.ofNat 8 (n / 256)]

/-- The bytes of a signed two-byte field. -/
def signedHalfBytes (x : Int) : List Byte := halfBytes (BitVec.ofInt 16 x).toNat

/-- The bytes of a signed four-byte field. -/
def signedWordBytes (x : Int) : List Byte :=
  let w := BitVec.ofInt 32 x
  halfBytes (w.toNat % 65536) ++ halfBytes (w.toNat / 65536)

/-- R201: one bit of the CRC-16: combined with the top bit of the register, which is shifted and corrected. -/
def crcBit (reg : Nat) (bit : Bool) : Nat :=
  let shifted := (2 * reg) % 65536
  if (32768 ≤ reg) != bit then Nat.xor shifted 0x1021 else shifted

/-- R201: one byte of the CRC-16, least significant bit first. -/
def crcByte (reg : Nat) (b : Byte) : Nat :=
  crcBit (crcBit (crcBit (crcBit (crcBit (crcBit (crcBit (crcBit reg
    (b.getLsbD 0)) (b.getLsbD 1)) (b.getLsbD 2)) (b.getLsbD 3)) (b.getLsbD 4)) (b.getLsbD 5))
    (b.getLsbD 6)) (b.getLsbD 7)

/-- R201: the CRC-16 of a run of bytes, from 0xFFFF, with no final inversion. -/
def crc16 (bytes : List Byte) : Nat := bytes.foldl crcByte 65535

/-- R201: a run of bytes with its CRC, low byte first. -/
def withCrc (bytes : List Byte) : List Byte := bytes ++ halfBytes (crc16 bytes)

/-- R91, R201: the last two bytes are the CRC of those before them. -/
def crcHolds (bytes : List Byte) : Bool :=
  bytes.drop (bytes.length - 2) == halfBytes (crc16 (bytes.take (bytes.length - 2)))

/-! ## Received frames (R91, R202) -/

/-- The checks of R91 that drop a frame, by the counter each increases. -/
inductive DropCheck where
  | framing
  | length
  | crc
  | slot
  | kind
deriving DecidableEq, Repr

/-- A frame with its fields read. -/
inductive FrameBody where
  | sun (s0 r : FrameVec)
  | receiver (state : Byte) (zones : List ZoneReading)
  | command (entries : List CommandEntry)
  | contribution (state : Byte) (items : List FrameItem)
deriving DecidableEq, Repr

/-- R91: what becomes of a frame. -/
inductive Judgement where
  | dropped (check : DropCheck)
  | valid (body : FrameBody)
deriving DecidableEq, Repr

/-- The zone readings of a RECEIVER frame, which fill the bytes exactly. -/
def readZones : Nat → List Byte → Option (List ZoneReading)
  | 0, [] => some []
  | n + 1, a :: b :: c :: d :: rest =>
    match readZones n rest with
    | none => none
    | some zs => some ({ limit := half a b, measured := half c d } :: zs)
  | _, _ => none

/-- The entries of a COMMAND frame, which fill the bytes exactly. -/
def readEntries : Nat → List Byte → Option (List CommandEntry)
  | 0, [] => some []
  | n + 1, t0 :: t1 :: k :: hf :: p0 :: p1 :: p2 :: p3 :: q0 :: q1 :: q2 :: q3 :: rest =>
    match readEntries n rest with
    | none => none
    | some es => some ({ target := half t0 t1, kind := k, heliostat := hf
                         param1 := word p0 p1 p2 p3, param2 := word q0 q1 q2 q3 } :: es)
  | _, _ => none

/-- The contribution entries of a CONTRIBUTION frame, and the bytes after them; a want byte is set when it is not 0. -/
def readItems : Nat → List Byte → Option (List FrameItem × List Byte)
  | 0, rest => some ([], rest)
  | n + 1, z :: a :: b :: w :: rest =>
    match readItems n rest with
    | none => none
    | some (is, tail) => some ({ zone := z, planned := half a b, want := w != 0 } :: is, tail)
  | _, _ => none

/-- R202: the size a report kind calls for. -/
def reportSize (kind : Byte) : Option Nat :=
  match kind.toNat with
  | 0 => some 0
  | 1 => some 47
  | 2 => some 20
  | _ => none

/-- R202: what follows the contribution entries: outcomes, OUTCOMES-LOST, report kind and report. -/
def tailFits : List Byte → Bool
  | [] => false
  | o :: rest =>
    o.toNat ≤ 4 &&
      match rest.drop (3 * o.toNat) with
      | _ :: kind :: report => reportSize kind == some report.length && 3 * o.toNat ≤ rest.length
      | _ => false

/-- R91 check 6, R202: the body of a frame of a kind, read exactly. -/
def readBody (kind : Nat) (body : List Byte) : Option FrameBody :=
  match kind, body with
  | 1, [a, b, c, d, e, f, g, h, i, j, k, l] =>
    some (.sun ⟨half a b, half c d, half e f⟩ ⟨half g h, half i j, half k l⟩)
  | 2, st :: z :: rest =>
    if 1 ≤ z.toNat ∧ z.toNat ≤ 32 then
      match readZones z.toNat rest with
      | none => none
      | some zs => some (.receiver st zs)
    else none
  | 3, n :: rest =>
    if 1 ≤ n.toNat ∧ n.toNat ≤ 8 then
      match readEntries n.toNat rest with
      | none => none
      | some es => some (.command es)
    else none
  | 4, st :: rest =>
    match rest.drop 17 with
    | [] => none
    | e :: items =>
      if e.toNat ≤ 8 then
        match readItems e.toNat items with
        | none => none
        | some (is, tail) => if tailFits tail then some (.contribution st is) else none
      else none
  | _, _ => none

/-- R91 check 5: the kind is allowed for the slot the frame began in. -/
def kindAllowed (kind slot : Nat) : Bool :=
  ((kind == 1 || kind == 2 || kind == 3) && slot < 8) || (kind == 4 && 8 ≤ slot && slot < 400)

/-- R91 check 2: the length field lies within 6 to 192 and equals the number of bytes received. -/
def lengthHolds (raw : RawFrame) : Bool :=
  match raw.bytes.head? with
  | none => false
  | some l => 6 ≤ l.toNat && l.toNat ≤ 192 && raw.count == l.toNat && raw.bytes.length == l.toNat

/-- R91: the six checks in order. -/
def judge (raw : RawFrame) : Judgement :=
  if !raw.stopsOk then .dropped .framing
  else if !lengthHolds raw then .dropped .length
  else if !crcHolds raw.bytes then .dropped .crc
  else
    match raw.bytes with
    | _ :: kind :: s0 :: s1 :: rest =>
      if (half s0 s1).toNat != raw.slot then .dropped .slot
      else if !kindAllowed kind.toNat raw.slot then .dropped .kind
      else
        match readBody kind.toNat (rest.take (rest.length - 2)) with
        | none => .dropped .length
        | some body => .valid body
    | _ => .dropped .length

/-- R108: the counter of a dropped frame increases. -/
def Counters.drop (c : Counters) : DropCheck → Counters
  | .framing => { c with framing := bump c.framing }
  | .length => { c with length := bump c.length }
  | .crc => { c with crc := bump c.crc }
  | .slot => { c with slot := bump c.slot }
  | .kind => { c with kind := bump c.kind }

/-! ## The contribution frame (R200, R202, R203) -/

/-- R201: a heliostat's posture byte. -/
def Helio.postureByte (h : Helio) : Byte := BitVec.ofNat 8 (h.posture.code + 16 * h.engaged.code)

/-- R202: the fault mask, bit h for heliostat h. -/
def State.faultMask (s : State) : Byte :=
  BitVec.ofBoolListLE (s.helios.toList.map fun h => h.fault != .none) |>.setWidth 8

def boolByte (b : Bool) : Byte := if b then 1 else 0

/-- R203: an aim point, or 0xFF. -/
def aimByte : Option Nat → Byte
  | none => 255
  | some ap => BitVec.ofNat 8 ap

/-- R203: the detail record of a heliostat. -/
def Helio.detail (h : Helio) (i : Fin 8) : List Byte :=
  [BitVec.ofNat 8 i.val, boolByte h.inService, boolByte h.homed, BitVec.ofNat 8 h.fault.code, h.postureByte,
   aimByte h.assignment, aimByte h.deferred] ++
  halfBytes h.p ++ halfBytes h.countedP ++ halfBytes h.c ++ halfBytes h.lastAz ++ signedHalfBytes h.lastEl ++
  signedHalfBytes h.dAz ++ signedHalfBytes h.dEl ++
  [BitVec.ofNat 8 (h.limit.toNat + 2 * h.geom.toNat)] ++
  signedWordBytes h.az.position ++ signedWordBytes h.az.target ++
  signedWordBytes h.el.position ++ signedWordBytes h.el.target ++
  (match h.hold with
   | none => boolByte false :: (signedWordBytes 0 ++ signedWordBytes 0)
   | some t => boolByte true :: (signedWordBytes t.az ++ signedWordBytes t.el))

/-- R203: the counters block. -/
def Counters.block (c : Counters) : List Byte :=
  [c.crc, c.framing, c.length, c.slot, c.kind, c.collisions, c.resyncs, c.aborts, c.refused,
   c.indexResyncs].flatMap halfBytes

/-- R107: the report kind and the report of the pending request. -/
def State.reportBytes (s : State) : List Byte :=
  match s.bi.report with
  | none => [0]
  | some (.helio i) => 1 :: s.helios[i].detail i
  | some .counters => 2 :: s.bi.counters.block

/-- R202: one contribution entry. -/
def PlanItem.bytes (i : PlanItem) : List Byte :=
  BitVec.ofNat 8 i.zone :: (halfBytes i.planned ++ [boolByte i.want])

/-- R202: one outcome. -/
def OutcomeRec.bytes (o : OutcomeRec) : List Byte := [o.kind, o.heliostat, BitVec.ofNat 8 o.result.code]

/-- R202: the body of the contribution frame, from offset 4 to the CRC. -/
def State.contributionBody (s : State) : List Byte :=
  [BitVec.ofNat 8 s.sc.state.code] ++ halfBytes s.conditions.toNat ++ halfBytes s.au.latches.toNat ++
  halfBytes s.irm.m ++ halfBytes s.irm.h ++ s.helios.toList.map Helio.postureByte ++ [s.faultMask] ++
  (BitVec.ofNat 8 s.fa.carried.length :: s.fa.carried.flatMap PlanItem.bytes) ++
  (BitVec.ofNat 8 s.bi.outcomes.length :: s.bi.outcomes.flatMap OutcomeRec.bytes) ++
  [boolByte s.bi.outcomesLost] ++ s.reportBytes

/-- R201, R202: the contribution frame of the station as it stands. -/
def State.frameBytes (s : State) : List Byte :=
  let body := s.contributionBody
  withCrc ([BitVec.ofNat 8 (body.length + 6), 4] ++ halfBytes s.sc.number ++ body)

end Sys2Proof.Machine
end

