-- ==== Sys2Proof/Machine/Irradiance.lean ====
section
/-! DEFINITION. The Irradiance Monitor (section 9.1): pulses, measured DNI, planning irradiance, CLOUDED. -/

namespace Sys2Proof.Machine

/-- R158: the measured DNI of a window. -/
def measuredDni (pulses scale : Nat) : Nat := min (pulses * scale / 16) 1500

/-- R159: the planning irradiance after a window. -/
def nextPlanning (m h decay floor : Nat) : Nat :=
  if h ≤ m then m else max m (max (h - decay) floor)

/-- R160: m lies below the cloud ratio of H. -/
def cloudedTest (m h ratio : Nat) : Bool := m * 256 < h * ratio

/-- R157: a rising edge of DNIIN within a window. -/
def IrradianceMonitor.pulse (irm : IrradianceMonitor) : IrradianceMonitor :=
  if irm.running then { irm with pulses := satAdd irm.pulses 1 } else irm

/-- R157: the window timer of a running window comes round. -/
def IrradianceMonitor.windowOver (irm : IrradianceMonitor) : Bool := irm.running && 249999 ≤ irm.timer

/-- R157 to R160: the window's end: m, H and CLOUDED in that order, and a new window. A window that another event of the
instant has abandoned or begun afresh (R161) does not end. -/
def IrradianceMonitor.endWindow (irm : IrradianceMonitor) (cfg : StationConfig) : IrradianceMonitor :=
  if irm.windowOver then
    let m := measuredDni irm.pulses cfg.dniScale
    let h := nextPlanning m irm.h cfg.dniDecay cfg.dniFloor
    { irm with timer := 0, pulses := 0, m := m, h := h, clouded := cloudedTest m h cfg.cloudRatio }
  else irm

/-- R157, R159: the monitor at the end of a load that passes. -/
def IrradianceMonitor.start (cfg : StationConfig) : IrradianceMonitor :=
  { running := true, timer := 0, pulses := 0, m := 0, h := cfg.dniDesign, clouded := false }

end Sys2Proof.Machine
end

