-- ==== Sys2Proof/Machine/References.lean ====
section
/-! DEFINITION. The Reference Store (chapter 6): sun records, the sun evaluation, the SUN source, the night count, the
receiver record with its two sources, and what the Flux Allocator reads of it. -/

namespace Sys2Proof.Machine

/-- The age of a record in epochs, modulo 2^32 (R112, R120). -/
def ageOf (now received : BitVec 32) : Nat := (now - received).toNat

/-- R111: a SUN frame replaces the sun record of its slot whole. -/
def State.takeSun (s : State) (slot : Fin 8) (s0 r : FrameVec) : State :=
  { s with rs := { s.rs with
      sun := s.rs.sun.set slot (some { s0 := signedVec s0, r := signedVec r, epoch := s.bi.epoch }) } }

/-- R112: a sun record whose age is above SUN_HORIZON becomes invalid. -/
def expireSun (now : BitVec 32) (horizon : Nat) : Option SunRecord → Option SunRecord
  | none => none
  | some rec => if horizon < ageOf now rec.epoch then none else some rec

/-- R113: the valid sun record of the lowest-numbered slot. -/
def RefStore.selected (rs : RefStore) : Option SunRecord := rs.sun.toList.findSome? id

/-- R114: one component extrapolated over a whole number of milliseconds. -/
def extrapolate (s0 r : Int) (ms : Nat) : Int := s0 + roundDiv (r * ms) 1024000

/-- R114: the selected record extrapolated to an evaluation. -/
def SunRecord.extrapolated (rec : SunRecord) (now : BitVec 32) (offset : Nat) : Vec3 :=
  let ms := 2000 * ageOf now rec.epoch + offset
  ⟨extrapolate rec.s0.e rec.r.e ms, extrapolate rec.s0.n rec.r.n ms, extrapolate rec.s0.u rec.r.u ms⟩

/-- R113, R115: the sun evaluation at an instant of the epoch (ms); none where the sun is lost. -/
def State.evalSun (s : State) (offset : Nat) : Option Vec3 :=
  match s.rs.selected with
  | none => none
  | some rec => unitScale (rec.extrapolated s.bi.epoch offset)

/-- R116: the tick's sun evaluation sets or withdraws the SUN source. -/
def State.updateSunSource (s : State) (lost : Bool) : State :=
  if s.src.sun = lost then s else s.setSources fun src => { src with sun := lost }

/-- R117: the night count after the epoch start's evaluation. -/
def nextNightCount (count : Nat) (nightSu : Int) : Option Vec3 → Nat
  | none => 0
  | some v => if v.u < nightSu then min (count + 1) 8 else 0

/-- R117: the epoch start's sun evaluation updates the night count. -/
def State.nightEvaluation (s : State) : State :=
  { s with rs := { s.rs with nightCount := nextNightCount s.rs.nightCount s.cfg.nightSu (s.evalSun 0) } }

/-- R120: a receiver record whose age is above RX_STALE has gone stale. -/
def State.receiverStale (s : State) : Bool :=
  match s.rs.receiver with
  | none => false
  | some rec => s.cfg.rxStale < ageOf s.bi.epoch rec.epoch

/-- R120, R121: a stale receiver record becomes invalid, and STANDBY RX is set. -/
def State.rxStaleTest (s : State) : State :=
  if s.receiverStale then
    ({ s with rs := { s.rs with receiver := none } } : State).setSources fun src => { src with standbyRx := true }
  else s

/-- R121, R122: the two sources after a RECEIVER frame taken with a state. -/
def receiverSources (state : RxState) (src : Sources) : Sources :=
  match state with
  | .cold => { src with standbyRx := true, rxTrip := false }
  | .warming | .operating => { src with standbyRx := false, rxTrip := false }
  | .trip => { src with rxTrip := true }

/-- R119: a RECEIVER frame is taken when its state field holds one of the four states. -/
def State.takeReceiver (s : State) (state : Byte) (zones : List ZoneReading) : State :=
  match rxStateOf state with
  | none => s
  | some st =>
    let taken : RxRecord :=
      { state := st
        zones := zones.map fun z => { limit := z.limit.toNat, measured := z.measured.toNat }
        epoch := s.bi.epoch }
    ({ s with rs := { s.rs with receiver := some taken } } : State).setSources (receiverSources st)

/-- R123: the zone limits count in WARMING and OPERATING alone. -/
def RxState.limitsApply : RxState → Bool
  | .warming | .operating => true
  | .cold | .trip => false

/-- R123: what the Flux Allocator reads for a zone. -/
def RefStore.zoneFlux (rs : RefStore) (z : Nat) : ZoneFlux :=
  match rs.receiver with
  | none => { limit := 0, measured := 0 }
  | some rec =>
    match rec.zones[z]? with
    | none => { limit := 0, measured := 0 }
    | some f => { limit := if rec.state.limitsApply then f.limit else 0, measured := f.measured }

/-- R125: the sources set at the end of a load that passes. -/
def loadSources (src : Sources) : Sources := { src with sun := true, standbyRx := true }

end Sys2Proof.Machine
end

