-- ==== Sys2Proof/Machine/Image.lean ====
section
/-! DEFINITION. The configuration image (R205): how its fields are read, every check of the load (R2, R19, R33, R43,
R110, R126, R138, R156, R181, R182), and what a load that passes does to the station (R184). -/

namespace Sys2Proof.Machine

/-! ## Reading the image -/

/-- R181: the first bytes of the configuration memory; a byte it does not give is read as 0xFF. -/
def imageBytes (image : List Byte) (n : Nat) : List Byte :=
  image.take n ++ List.replicate (n - image.length) 255

/-- R205: the four-byte words of the image from byte 10 on. -/
def toWords : List Byte → List Word
  | a :: b :: c :: d :: rest => word a b c d :: toWords rest
  | _ => []

/-- A word of the image, by its place among the words from byte 10 on. -/
def wordAt (ws : List Word) (i : Nat) : Word := ws.getD i 0

/-- A word of the image as the signed value it holds. -/
def valueAt (ws : List Word) (i : Nat) : Int := (wordAt ws i).toInt

/-- Three words of the image as a position. -/
def vecAt (ws : List Word) (i : Nat) : Vec3 := ⟨valueAt ws i, valueAt ws (i + 1), valueAt ws (i + 2)⟩

/-- R205: the words of a heliostat record begin after the twenty station words. -/
def recordBase (h : Nat) : Nat := 20 + 47 * h

/-- R205: the first words of the azimuth and of the elevation axis within a record. -/
def axisOffset : AxisId → Nat
  | .az => 17
  | .el => 32

/-- R205: the fifteen words of an axis. -/
def readAxis (ws : List Word) (i : Nat) : AxisParams :=
  { zero := valueAt ws i
    spt := (valueAt ws (i + 1)).toNat
    softMin := valueAt ws (i + 2)
    softMax := valueAt ws (i + 3)
    startPeriod := (valueAt ws (i + 4)).toNat
    slewPeriod := (valueAt ws (i + 5)).toNat
    trackPeriod := (valueAt ws (i + 6)).toNat
    homePeriod := (valueAt ws (i + 7)).toNat
    rampDec := (valueAt ws (i + 8)).toNat
    pulseWidth := (valueAt ws (i + 9)).toNat
    fineWindow := (valueAt ws (i + 10)).toNat
    backlash := (valueAt ws (i + 11)).toNat
    indexPos := valueAt ws (i + 12)
    slipTol := (valueAt ws (i + 13)).toNat
    homeMax := (valueAt ws (i + 14)).toNat }

/-- What a heliostat takes from its record of the image. -/
structure HelioImage where
  cfg : HelioConfig
  dAz : Int
  dEl : Int
  az  : AxisParams
  el  : AxisParams
deriving DecidableEq, Repr

/-- R205: the record of an absent heliostat is not read beyond its first word (log entry 4). -/
def HelioImage.absent : HelioImage :=
  { cfg := .blank, dAz := 0, dEl := 0, az := .blank, el := .blank }

/-- R205: the candidate words of a record, as many as its count calls for, of the four there are. -/
def candidateValues (ws : List Word) (b : Nat) : List Int :=
  (List.range (min (valueAt ws (b + 7)).toNat 4)).map fun i => valueAt ws (b + 8 + i)

/-- R205: a present word that is not 0 makes the heliostat present. -/
def recordPresent (ws : List Word) (b : Nat) : Bool := wordAt ws b != 0

/-- R1, R205: a heliostat record. -/
def readRecord (ws : List Word) (b : Nat) : HelioImage :=
  if recordPresent ws b then
    { cfg :=
        { present := true
          initialIn := valueAt ws (b + 1) == 1
          pivot := vecAt ws (b + 2)
          area := (valueAt ws (b + 5)).toNat
          delivery := (valueAt ws (b + 6)).toNat
          candidates := (candidateValues ws b).map Int.toNat
          defocusOffset := valueAt ws (b + 14)
          stow := ⟨valueAt ws (b + 15), valueAt ws (b + 16)⟩ }
      dAz := valueAt ws (b + 12)
      dEl := valueAt ws (b + 13)
      az := readAxis ws (b + axisOffset .az)
      el := readAxis ws (b + axisOffset .el) }
  else .absent

/-- R205: the words of an aim-point entry begin after the eight records. -/
def aimBase (k : Nat) : Nat := 396 + 4 * k

/-- R11, R205: the aim-point table. -/
def readAims (ws : List Word) (count : Nat) : List AimPoint :=
  (List.range count).map fun k => { zone := (valueAt ws (aimBase k)).toNat, pos := vecAt ws (aimBase k + 1) }

/-- R205: a pattern of a length; bit j of the word is b_j. -/
def readPattern (w : Word) (length : Nat) : List Bool := (List.range length).map fun j => w.getLsbD j

/-- What the blocks take from an image that passes. -/
structure ImageValues where
  cfg     : StationConfig
  enable  : BitVec 16
  records : Vector HelioImage 8
deriving DecidableEq, Repr

/-- R205: the values of an image, from its bytes. -/
def readValues (bytes : List Byte) : ImageValues :=
  let ws := toWords (bytes.drop 10)
  { cfg :=
      { aims := readAims ws (bytes.getD 5 255).toNat
        standby := vecAt ws 17
        stowEdge := bytes.getD 6 255 == 1
        dawnRehome := bytes.getD 7 255 == 1
        aimPeriod := (valueAt ws 0).toNat
        sunHorizon := (valueAt ws 1).toNat
        nightSu := valueAt ws 2
        dawnSu := valueAt ws 3
        rxStale := (valueAt ws 4).toNat
        peerAgeMax := (valueAt ws 5).toNat
        isoEpochs := (valueAt ws 6).toNat
        dniScale := (valueAt ws 7).toNat
        dniDecay := (valueAt ws 8).toNat
        dniFloor := (valueAt ws 9).toNat
        dniDesign := (valueAt ws 10).toNat
        cloudRatio := (valueAt ws 11).toNat
        activate := readPattern (wordAt ws 12) (bytes.getD 8 255).toNat
        release := readPattern (wordAt ws 13) (bytes.getD 9 255).toNat
        detectReps := (valueAt ws 14).toNat
        genMs := (valueAt ws 15).toNat }
    enable := (wordAt ws 16).setWidth 16 &&& 0x1FFF
    records := Vector.ofFn fun h => readRecord ws (recordBase h.val) }

/-! ## The checks of the load -/

/-- A value within a range, both ends included. -/
def within (x lo hi : Int) : Bool := lo ≤ x && x ≤ hi

/-- R2: a position with no coordinate beyond 500,000 cm. -/
def coordinatesFit (v : Vec3) : Bool :=
  within v.e (-500000) 500000 && within v.n (-500000) 500000 && within v.u (-500000) 500000

/-- R33: the range of ZERO. -/
def zeroFits (a : AxisId) (x : Int) : Bool :=
  match a with
  | .az => within x 0 65535
  | .el => within x (-16384) 16384

/-- R2, R33, R43: the parameters of an axis, at its first word, with the stow posture's component. -/
def axisFits (ws : List Word) (a : AxisId) (i : Nat) (stow : Int) : Bool :=
  let softMin := valueAt ws (i + 2)
  let softMax := valueAt ws (i + 3)
  let start := valueAt ws (i + 4)
  let pulse := valueAt ws (i + 9)
  zeroFits a (valueAt ws i) && within (valueAt ws (i + 1)) 1000 16000000 && softMin < softMax &&
    within stow softMin softMax && within start 100 65535 && within (valueAt ws (i + 5)) (pulse + 1) start &&
    within (valueAt ws (i + 6)) start 65535 && within (valueAt ws (i + 7)) start 65535 &&
    within (valueAt ws (i + 8)) 0 4095 && within pulse 1 50 && within (valueAt ws (i + 10)) 1 65535 &&
    within (valueAt ws (i + 11)) 0 255 && within (valueAt ws (i + 12)) softMin softMax &&
    within (valueAt ws (i + 13)) 1 65535 && within (valueAt ws (i + 14)) 1 50000000

/-- R2: no value stands twice in a list. -/
def noRepeats : List Int → Bool
  | [] => true
  | x :: rest => !rest.contains x && noRepeats rest

/-- R2: the pivot is not the position of an aim point or of the standby point. -/
def pivotClear (aims : List AimPoint) (standby pivot : Vec3) (candidates : List Int) : Bool :=
  pivot != standby && candidates.all fun c => match aims[c.toNat]? with
    | none => true
    | some a => pivot != a.pos

/-- R2, R33, R43: a heliostat record; that of an absent heliostat is not checked. -/
def recordFits (ws : List Word) (aims : List AimPoint) (b : Nat) : Bool :=
  !recordPresent ws b ||
    (within (valueAt ws (b + 7)) 1 4 && noRepeats (candidateValues ws b) &&
      ((candidateValues ws b).all fun c => 0 ≤ c && c < (aims.length : Int)) &&
      pivotClear aims (vecAt ws 17) (vecAt ws (b + 2)) (candidateValues ws b) &&
      coordinatesFit (vecAt ws (b + 2)) && within (valueAt ws (b + 1)) 0 1 &&
      within (valueAt ws (b + 5)) 4 600 && within (valueAt ws (b + 6)) 0 255 &&
      within (valueAt ws (b + 12)) (-2048) 2047 && within (valueAt ws (b + 13)) (-2048) 2047 &&
      axisFits ws .az (b + axisOffset .az) (valueAt ws (b + 15)) &&
      axisFits ws .el (b + axisOffset .el) (valueAt ws (b + 16)))

/-- R2: the zones of the candidates of all present heliostats number no more than eight. -/
def zonesFit (v : ImageValues) : Bool :=
  ((List.range 32).filter fun z => v.records.toList.any fun r =>
    r.cfg.present && r.cfg.candidates.any fun ap => v.cfg.zoneOf ap == some z).length ≤ 8

/-- R126: neither all ones nor all zeros. -/
def patternMixed (p : List Bool) : Bool := p.contains true && p.contains false

/-- R126: a pattern turned by some number of places. -/
def rotated (p : List Bool) (k : Nat) : List Bool := p.drop k ++ p.take k

/-- R126: the defocus patterns and timing. -/
def codeFits (cfg : StationConfig) (reps genMs : Int) : Bool :=
  within cfg.activate.length 5 8 && within cfg.release.length 5 8 && within reps 1 65535 && within genMs 10 1000 &&
    patternMixed cfg.activate && patternMixed cfg.release &&
    ((List.range cfg.activate.length).all fun k => cfg.release != rotated cfg.activate k) &&
    5000 ≤ reps * cfg.activate.length && 5000 ≤ reps * cfg.release.length &&
    2 * reps * cfg.activate.length ≤ genMs * 500

/-- R11, R182: the aim-point table. -/
def aimsFit (ws : List Word) (count : Nat) : Bool :=
  within count 1 64 && (List.range count).all fun k =>
    within (valueAt ws (aimBase k)) 0 31 && coordinatesFit (vecAt ws (aimBase k + 1))

/-- R19, R110, R138, R156, R182: the ranges of the station words. -/
def stationFits (ws : List Word) : Bool :=
  [250, 500, 1000, 2000].contains (valueAt ws 0) && within (valueAt ws 1) 1 64 &&
    within (valueAt ws 2) (-16384) 16384 && within (valueAt ws 3) (valueAt ws 2) 16384 &&
    within (valueAt ws 4) 1 16 && within (valueAt ws 5) 1 8 && within (valueAt ws 6) 1 16 &&
    within (valueAt ws 7) 1 65535 && within (valueAt ws 8) 0 255 && within (valueAt ws 9) 0 1500 &&
    within (valueAt ws 10) (valueAt ws 9) 1500 && within (valueAt ws 11) 0 255 && coordinatesFit (vecAt ws 17)

/-- R182: every content check, on the bytes of an image whose length is that its counts call for. -/
def contentFits (bytes : List Byte) : Bool :=
  let ws := toWords (bytes.drop 10)
  let v := readValues bytes
  (bytes.getD 6 255).toNat ≤ 1 && (bytes.getD 7 255).toNat ≤ 1 &&
    aimsFit ws (bytes.getD 5 255).toNat && stationFits ws && codeFits v.cfg (valueAt ws 14) (valueAt ws 15) &&
    ((List.range 8).all fun h => recordFits ws v.cfg.aims (recordBase h)) && zonesFit v

/-- R181: the length field of an image. -/
def imageLength (image : List Byte) : Nat := (half (image.getD 2 255) (image.getD 3 255)).toNat

/-- R181: the marker, the length's range, the CRC and the version. -/
def framingFits (image : List Byte) : Bool :=
  image.getD 0 255 == 0x5C && image.getD 1 255 == 0xA7 && 64 ≤ imageLength image && imageLength image ≤ 4096 &&
    crcHolds (imageBytes image (imageLength image)) && image.getD 4 255 == 1

/-- R180 to R182, R205: the values of an image that passes every check of the load, the station number among them; none
for one that is refused. -/
def judgeImage (number : Nat) (image : List Byte) : Option ImageValues :=
  let bytes := imageBytes image (imageLength image)
  if framingFits image && (8 ≤ number && number ≤ 399) &&
      imageLength image == 1596 + 16 * (image.getD 5 255).toNat && contentFits bytes then
    some (readValues bytes)
  else none

/-! ## The end of a load (R184) -/

/-- R64: an axis at the end of a load takes its parameters; the kept take-up count of a heliostat that is present is
reduced to the new BACKLASH. -/
def Axis.load (a : Axis) (prm : AxisParams) (present : Bool) : Axis :=
  { a with prm := prm, takeUp := if present then min a.takeUp prm.backlash else a.takeUp }

/-- R64: an axis whose position lies outside the reloaded soft limits is sent to the nearer limit. -/
def Axis.limitTarget (a : Axis) : Axis := if a.soft a.position = a.position then a else a.writeTarget (a.soft a.position)

/-- R1, R4 to R6, R18, R64: a heliostat at the end of a load that passes. -/
def Helio.load (h : Helio) (r : HelioImage) : Helio :=
  let both := h.cfg.present && r.cfg.present
  let t := { h with
    cfg := r.cfg
    inService := r.cfg.initialIn
    dAz := if both then h.dAz else r.dAz
    dEl := if both then h.dEl else r.dEl
    fault := if both then h.fault else .none
    homed := h.homed && r.cfg.present && r.cfg.initialIn
    az := h.az.load r.az r.cfg.present
    el := h.el.load r.el r.cfg.present }
  if t.homed then { t with az := t.az.limitTarget, el := t.el.limitTarget } else t

/-- R5: a heliostat that the end of a load gives a homing start. -/
def Helio.startsHoming (h : Helio) : Bool := h.usable && !h.homed

/-- R184 steps 1 and 2, with R157 and R196: the blocks take their values from the image. -/
def State.takeImage (s : State) (v : ImageValues) : State :=
  ({ s with
    cfg := v.cfg
    helios := mapEach (fun i h => h.load v.records[i]) s.helios
    irm := .start v.cfg
    sc := { s.sc with isoCount := 0 }
    au := { s.au with enable := v.enable } } : State).recomputeInterest

/-- R80, R125, R184 step 3: the sources set before any heliostat engages. -/
def State.takeLoadSources (s : State) : State :=
  { s with src := { (loadSources s.src) with stowLine := s.src.stowLine || s.stowin } }

/-- R184 step 4: SYNCING begins and each unmasked heliostat engages. -/
def State.beginSyncing (s : State) : State :=
  ({ s with sc := { s.sc with state := .syncing, listen := false } } : State).reengageAll

/-- R5, R184 step 5: the homing starts. -/
def State.startHomings (s : State) : State :=
  (List.finRange 8).foldl
    (fun t i => if t.helios[i].startsHoming then t.updateHelio i Helio.homingStart else t) s

/-- R197: at the end of a load every enabled condition that holds is taken as a transition. -/
def State.latchAtLoad (s : State) : State := { s with au := { s.au with latches := s.conditions &&& s.au.enable } }

/-- R184: a load that passes. -/
def State.passLoad (s : State) (v : ImageValues) : State :=
  (s.takeImage v).takeLoadSources.beginSyncing.startHomings.latchAtLoad

/-- R87: the instant of a RESTART's reset is over at the latest when its load ends. -/
def TimerInstant.afterLoad : TimerInstant → TimerInstant
  | .due => .due
  | .plain | .cut => .plain

/-- R180, R181: the load ends; a refused image takes the station into CONFIG-FAULT (R182). -/
def State.endLoad (s : State) (image : List Byte) : State :=
  let t := { s with bi := { s.bi with timerInstant := s.bi.timerInstant.afterLoad } }
  match judgeImage s.sc.number image with
  | none => { t with sc := { t.sc with state := .configFault } }
  | some v => t.passLoad v

end Sys2Proof.Machine
end

