-- ==== Sys2Proof/Machine/Events.lean ====
section
/-! DEFINITION. Events at the pins and at the block's own clocks: axis steps, index edges, driver faults, the stow and
trip inputs, the defocus code, the irradiance windows, the resets and the end of a load, with their meanings. -/

namespace Sys2Proof.Machine

/-! ## Axes (R44 to R59) -/

/-- R44, R57: a step of an axis, and what the heliostat makes of it; the counter is loaded after the decision. -/
def Helio.stepAxis (h : Helio) (a : AxisId) : Helio :=
  let b := (h.setAxis a (h.axis a).stepAndDecide).homefailTest a
  b.setAxis a (b.axis a).reload

/-- R3, R44: the counter of a running step generator reaches 0; a counter that stands above 1 is not there yet, as where
another event of this instant has stopped and started the generator. -/
def State.axisStep (s : State) (h : Fin 8) (a : AxisId) : State :=
  if s.helios[h].cfg.present && (s.helios[h].axis a).stepDue then s.updateHelio h fun x => x.stepAxis a else s

/-- The level an index input now has. -/
def Helio.setIndex (h : Helio) (a : AxisId) (level : Bool) : Helio := h.setAxis a { h.axis a with index := level }

/-- R53, R56: a rising index edge of a present heliostat. -/
def State.indexRise (s : State) (h : Fin 8) (a : AxisId) : State :=
  let x := s.helios[h].axis a
  if x.drive = .homeSearch then s.updateHelio h fun y => y.homingEdge a
  else if x.edgeChecked then
    if x.withinSlip then
      (s.updateHelio h fun y => y.setAxis a (y.axis a).resync).count
        fun c => { c with indexResyncs := bump c.indexResyncs }
    else s.updateHelio h fun y => y.detect .slip
  else s

/-- R3, R53, R56: an index input takes a level; only a rise is taken, and none of an absent heliostat. -/
def State.indexEdge (s : State) (h : Fin 8) (a : AxisId) (level : Bool) : State :=
  let t := { s with helios := s.helios.set h (s.helios[h].setIndex a level) }
  if level && !(s.helios[h].axis a).index && s.helios[h].cfg.present && !s.inReset then
    t.change fun s => s.indexRise h a
  else t

/-- R57: the test of an axis in a homing phase. -/
def State.homefail (s : State) (h : Fin 8) (a : AxisId) : State :=
  if s.helios[h].cfg.present then s.updateHelio h fun x => x.homefailTest a else s

/-- R58: DRVFLT takes a level; its going active while DRVEN is active is a DRIVE fault. -/
def State.driveFault (s : State) (h : Fin 8) (active : Bool) : State :=
  let t := { s with helios := s.helios.set h { s.helios[h] with drvflt := active } }
  if active && !s.helios[h].drvflt && s.drven h then
    t.change fun s => s.updateHelio h fun x => x.detect .drive
  else t

def execAxisStep (h : Fin 8) (a : AxisId) (s : State) : Host.Outcome State Fault Refusal :=
  .next (if s.inReset then s else s.change fun s => s.axisStep h a)

def execIndexEdge (h : Fin 8) (a : AxisId) (level : Bool) (s : State) : Host.Outcome State Fault Refusal :=
  .next (s.indexEdge h a (activeHigh level))

/-- R57 (log entry 1). -/
def execHomefail (h : Fin 8) (a : AxisId) (s : State) : Host.Outcome State Fault Refusal :=
  .next (if s.inReset then s else s.change fun s => s.homefail h a)

def execDriveFault (h : Fin 8) (level : Bool) (s : State) : Host.Outcome State Fault Refusal :=
  .next (s.driveFault h (activeLow level))

/-! ## The stow input (R80 to R82) -/

/-- R81, R82: the LINE source after a change of the stow input. -/
def lineAfter (edgeMode active line : Bool) : Bool := if edgeMode then line || active else active

/-- R81, R82: a change of the stow input. -/
def State.stowChange (s : State) (active : Bool) : State :=
  s.setSources fun src => { src with stowLine := lineAfter s.cfg.stowEdge active src.stowLine }

/-- R80 to R82: the stow input takes a level; from the end of a load that passes a change acts on LINE. -/
def State.stowInput (s : State) (active : Bool) : State :=
  let t := { s with stowin := active }
  if active != s.stowin && s.running then t.change fun s => s.stowChange active else t

def execStowInputChange (level : Bool) (s : State) : Host.Outcome State Fault Refusal :=
  .next (s.stowInput (activeLow level))

/-! ## The trip input and the defocus code (R129 to R136) -/

/-- R133: TRIPIN takes a level; a trip edge starts a generation unless one is in progress. -/
def State.tripInput (s : State) (active : Bool) : State :=
  let t := { s with tripin := active }
  if active && !s.tripin && s.running && !s.dcu.generating then t.change State.startGeneration else t

def execTripEdge (level : Bool) (s : State) : Host.Outcome State Fault Refusal :=
  .next (s.tripInput (activeLow level))

def execGenerationEnd (s : State) : Host.Outcome State Fault Refusal :=
  .next (s.ifRunning State.endGeneration)

/-- A bit received; of two detections on it the activate detection is taken first (R131). -/
def execActivateDetection (bit : Bool) (s : State) : Host.Outcome State Fault Refusal :=
  .next (s.receiveBit true bit)

/-- A bit received; of two detections on it the release detection is taken first (R131). -/
def execReleaseDetection (bit : Bool) (s : State) : Host.Outcome State Fault Refusal :=
  .next (s.receiveBit false bit)

/-- A bit received, on which a detector may lock (R127, R136). -/
def execDetectorLock (bit : Bool) (s : State) : Host.Outcome State Fault Refusal :=
  .next (s.receiveBit true bit)

/-! ## Irradiance (R157 to R160) -/

def execDniPulse (s : State) : Host.Outcome State Fault Refusal :=
  .next (s.ifRunning fun s => { s with irm := s.irm.pulse })

def execWindowEnd (s : State) : Host.Outcome State Fault Refusal :=
  .next (s.ifRunning fun s => s.change fun s => { s with irm := s.irm.endWindow s.cfg })

/-! ## Resets and the load (R180 to R195) -/

/-- R180, R181, R192: a load begins where a reset was in force and none is in force any more. -/
def State.loadIfReleased (s t : State) : State := if s.inReset && !t.inReset then t.sampleStraps else t

/-- R192, R194: the power-on reset comes into force, which sets POR, or ends. -/
def State.powerOnReset (s : State) (inForce : Bool) : State :=
  if inForce then ({ s with sc := { s.sc with inPowerOn := true, por := true } } : State).hardReset
  else s.loadIfReleased { s with sc := { s.sc with inPowerOn := false } }

/-- R192, R194: RESETn comes into force, which leaves POR, or is released. -/
def State.resetPin (s : State) (active : Bool) : State :=
  if active then ({ s with sc := { s.sc with inResetn := true } } : State).hardReset
  else s.loadIfReleased { s with sc := { s.sc with inResetn := false } }

/-- The strap pins at the levels they now have (R180, R206). -/
def State.strapsAt (s : State) (straps : BitVec 9) : State := { s with straps := straps }

def execPowerOnReset (input : PowerOnInput) (s : State) : Host.Outcome State Fault Refusal :=
  .next ((s.strapsAt input.straps).powerOnReset input.inForce)

def execResetn (input : ResetnInput) (s : State) : Host.Outcome State Fault Refusal :=
  .next ((s.strapsAt input.straps).resetPin (activeLow input.level))

/-- A load ends only while one is in progress (R181; log entry 15); straps changed since its start wait for the next
load (R180). -/
def execLoadEnd (straps : BitVec 9) (image : List Byte) (s : State) : Host.Outcome State Fault Refusal :=
  .next (if s.sc.state = .loading ∧ s.inReset = false then (s.strapsAt straps).endLoad image else s)

end Sys2Proof.Machine
end

