-- ==== Sys2Proof/WellFormed.lean ====
section
/-! DEFINITION. Which commands the outside world can form: the ranges the spec gives to the operands.
`exec` answers every term; this check says which terms are commands of the hardware. -/

namespace Sys2Proof

/-- A command kind that R204 lists as reserved. -/
def reservedKind (kind : Byte) : Bool :=
  kind.toNat == 0 || 16 ≤ kind.toNat

/-- A command whose operands lie in the ranges of the spec: slots and counts of frames (R91, R202), the instants of
the aim tick (R19), reserved kinds (R204), slots that begin by a slot change (R87), at least one byte counted and no
more than 192 kept in a received frame (R90). -/
def Instr.wellFormed : Instr → Bool
  | .reservedCommand kind _ => reservedKind kind
  | .receiverFrame _ _ zones => 1 ≤ zones.length && zones.length ≤ 32
  | .contributionFrame sender _ items => 8 ≤ sender && sender ≤ 399 && items.length ≤ 8
  | .commandFrame _ entries => 1 ≤ entries.length && entries.length ≤ 8
  | .frameDropped raw =>
      raw.slot ≤ 399 && 1 ≤ raw.count && raw.bytes.length == min raw.count 192
  | .slotStart slot => 1 ≤ slot && slot ≤ 399
  | .aimTick offset stop => offset % 250 == 0 && offset < 2000 && stop ≤ 8
  | .loadEnd _ image => image.length ≤ 4096
  | .stowField _ | .stowRelease _ | .standbySet _ | .standbyClear _ | .hold _ _ _ | .holdRelease _
  | .serviceOut _ | .serviceIn _ | .correct _ _ _ | .rehome _ | .defocusRelease _ | .clearAlerts _
  | .clearSticky _ | .report _ | .restart _ | .sunFrame _ _ _ | .ownNumberFrame | .epochStart _
  | .timeMark _ | .markWindowClose | .markLost | .busLost | .build | .frameBegin
  | .transmitCompletion | .echoMismatch | .enterSilent | .enterIsolated | .enterNight
  | .sunRecordExpiry _ | .rxStale | .peerAgeOut _ _ | .residueExpiry _ | .axisStep _ _
  | .indexEdge _ _ _ | .homefail _ _ | .driveFault _ _ | .stowInputChange _ | .tripEdge _
  | .generationEnd | .activateDetection _ | .releaseDetection _ | .dniPulse | .windowEnd
  | .powerOnReset _ | .resetn _ | .detectorLock _ => true

end Sys2Proof
end

