-- ==== Sys2Proof/Machine/Commands.lean ====
section
/-! DEFINITION. The command entries of the plant (R102, R204): each checked and taken by its owner, answered with one
outcome. The meanings of the sixteen command rows stand at the end. -/

namespace Sys2Proof.Machine

/-! ## Stow and standby commands (R76 to R79) -/

/-- R76, R132, R193, R199: an entry for the whole station must carry 0xFF; any other value gives RANGE and changes nothing.
Its outcome returns the field as received (R103), which is 0xFF wherever the entry passes; R76 and R132 are read so (log
entry 42). -/
def stationWide (hf : Byte) (f : State → Result × State) (s : State) : Result × State :=
  if hf = allHeliostats then f s else (.range, s)

/-- R77. -/
def stowFieldEffect (s : State) : Result × State := (.done, s.setSources fun src => { src with stowCmd := true })

/-- R78. -/
def stowReleaseEffect (s : State) : Result × State :=
  if s.cfg.stowEdge then
    if s.src.stowCmd || s.src.stowLine then
      (.done, s.setSources fun src => { src with stowCmd := false, stowLine := false })
    else (.state, s)
  else if s.src.stowCmd then (.done, s.setSources fun src => { src with stowCmd := false })
  else (.state, s)

/-- R79. -/
def standbySetEffect (s : State) : Result × State := (.done, s.setSources fun src => { src with standbyCmd := true })

/-- R79. -/
def standbyClearEffect (s : State) : Result × State :=
  if s.src.standbyCmd then (.done, s.setSources fun src => { src with standbyCmd := false }) else (.state, s)

/-! ## HOLD and HOLD-RELEASE (R73 to R75) -/

/-- R73, R74: a HOLD target that is taken: stored, and written at once where HOLD is engaged. -/
def Helio.takeHold (h : Helio) (t : Steps) : Helio :=
  let b := { h with hold := some (h.softSteps t), limit := h.limit || h.softSteps t != t }
  if h.engaged = .hold then b.writeTargets (h.softSteps t) else b

/-- R73: HOLD is engaged and its heliostat still moves. -/
def Helio.holdBusy (h : Helio) : Bool := h.engaged == .hold && h.posture == .moving

/-- R73, R74. -/
def holdEffect (hf : Byte) (t : Steps) (s : State) : Result × State :=
  match s.presentIndex hf with
  | none => (.range, s)
  | some i => if s.helios[i].holdBusy then (.busy, s) else (.done, s.updateHelio i fun h => h.takeHold t)

/-- R75. -/
def holdReleaseEffect (hf : Byte) (s : State) : Result × State :=
  match s.presentIndex hf with
  | none => (.range, s)
  | some i =>
    if s.helios[i].hold.isNone then (.state, s) else (.done, s.updateHelio i fun h => { h with hold := none })

/-! ## Service, correction, re-homing (R14 to R16, R62) -/

/-- R14, R61. -/
def serviceOutEffect (hf : Byte) (s : State) : Result × State :=
  match s.presentIndex hf with
  | none => (.range, s)
  | some i =>
    if s.helios[i].inService then (.done, (s.updateHelio i Helio.takeOut).recomputeInterest) else (.state, s)

/-- R15, R61: the fault field is cleared before the homing start, which may detect a fault anew: two changes (R197). -/
def serviceInEffect (hf : Byte) (s : State) : Result × State :=
  match s.presentIndex hf with
  | none => (.range, s)
  | some i =>
    if s.helios[i].inService then (.state, s)
    else if s.helios[i].fault = .drive ∧ s.helios[i].drvflt = true then (.state, s)
    else
      (.done, ((s.change fun s => s.updateHelio i Helio.takeIn).change
        fun s => s.updateHelio i Helio.homingStart).recomputeInterest)

/-- R16: a correction offset within its range. -/
def correctionFits (x : Int) : Bool := -2048 ≤ x && x ≤ 2047

/-- R16. -/
def correctEffect (hf : Byte) (dAz dEl : Int) (s : State) : Result × State :=
  match s.presentIndex hf with
  | none => (.range, s)
  | some i =>
    if correctionFits dAz && correctionFits dEl then
      (.done, { s with helios := s.helios.set i { s.helios[i] with dAz := dAz, dEl := dEl } })
    else (.range, s)

/-- R62: the check that refuses a REHOME of a present heliostat, if any. -/
def Helio.rehomeRefusal (h : Helio) : Option Result :=
  if h.homing.isSome then some .busy
  else if !h.inService then some .state
  else if h.drvflt then some .state
  else none

/-- R62: one heliostat of a REHOME with 0xFF; a heliostat that is absent or refuses is passed over. -/
def State.rehomeOne (s : State) (i : Fin 8) : State :=
  if s.helios[i].cfg.present && (s.helios[i].rehomeRefusal).isNone then s.updateHelio i Helio.rehome else s

/-- R62, R190: every heliostat in index order. -/
def State.rehomeAll (s : State) : State := (List.finRange 8).foldl State.rehomeOne s

/-- R62: the present heliostats, in index order. -/
def State.presentHelios (s : State) : List (Fin 8) := (List.finRange 8).filter fun i => s.helios[i].cfg.present

/-- R62: the one outcome of a REHOME with 0xFF: that of the lowest present heliostat not taken. -/
def State.rehomeAllResult (s : State) : Result :=
  if s.presentHelios.isEmpty then .range
  else match s.presentHelios.findSome? fun i => s.helios[i].rehomeRefusal with
    | none => .done
    | some r => r

/-- R62. -/
def rehomeEffect (hf : Byte) (s : State) : Result × State :=
  if hf = allHeliostats then (s.rehomeAllResult, s.rehomeAll)
  else match s.presentIndex hf with
    | none => (.range, s)
    | some i => match s.helios[i].rehomeRefusal with
      | some r => (r, s)
      | none => (.done, s.updateHelio i Helio.rehome)

/-! ## The code, the alerts, the report (R106, R132, R199) -/

/-- R132. -/
def defocusReleaseEffect (s : State) : Result × State :=
  if s.dcu.generating then (.busy, s) else if s.dcu.active then (.done, s.releaseCode) else (.state, s)

/-- R199: every latch with its published mark is cleared, with both marks. -/
def AlertUnit.clearPublished (au : AlertUnit) : AlertUnit :=
  { au with
    latches := au.latches &&& ~~~au.published
    carried := au.carried &&& ~~~au.published
    published := 0 }

/-- R199. -/
def clearAlertsEffect (s : State) : Result × State := (.done, { s with au := s.au.clearPublished })

/-- R199. -/
def clearStickyEffect (s : State) : Result × State :=
  (.done, { s with
    helios := mapEach (fun _ h => { h with limit := false, geom := false }) s.helios
    fa := { s.fa with zoneSat := false }
    sc := { s.sc with por := false } })

/-- R106: a report request that is taken replaces any pending one. -/
def State.request (s : State) (r : ReportRequest) : State :=
  { s with bi := { s.bi with report := some r, reportCarried := false } }

/-- R106. -/
def reportEffect (hf : Byte) (s : State) : Result × State :=
  if hf = allHeliostats then (.done, s.request .counters)
  else match s.presentIndex hf with
    | none => (.range, s)
    | some i => (.done, s.request (.helio i))

/-! ## Taken entries -/

def State.stowField (s : State) (hf : Byte) : State := s.takeCommand 1 hf (stationWide hf stowFieldEffect)

def State.stowRelease (s : State) (hf : Byte) : State := s.takeCommand 2 hf (stationWide hf stowReleaseEffect)

def State.standbySet (s : State) (hf : Byte) : State := s.takeCommand 3 hf (stationWide hf standbySetEffect)

def State.standbyClear (s : State) (hf : Byte) : State := s.takeCommand 4 hf (stationWide hf standbyClearEffect)

def State.hold (s : State) (hf : Byte) (az el : Word) : State :=
  s.takeCommand 5 hf (holdEffect hf ⟨signedParam az, signedParam el⟩)

def State.holdRelease (s : State) (hf : Byte) : State := s.takeCommand 6 hf (holdReleaseEffect hf)

def State.serviceOut (s : State) (hf : Byte) : State := s.takeCommand 7 hf (serviceOutEffect hf)

def State.serviceIn (s : State) (hf : Byte) : State := s.takeCommand 8 hf (serviceInEffect hf)

def State.correct (s : State) (hf : Byte) (dAz dEl : Word) : State :=
  s.takeCommand 9 hf (correctEffect hf (signedParam dAz) (signedParam dEl))

def State.rehome (s : State) (hf : Byte) : State := s.takeCommand 10 hf (rehomeEffect hf)

def State.defocusRelease (s : State) (hf : Byte) : State :=
  s.takeCommand 11 hf (stationWide hf defocusReleaseEffect)

def State.clearAlerts (s : State) (hf : Byte) : State := s.takeCommand 12 hf (stationWide hf clearAlertsEffect)

def State.clearSticky (s : State) (hf : Byte) : State := s.takeCommand 13 hf (stationWide hf clearStickyEffect)

def State.report (s : State) (hf : Byte) : State := s.takeCommand 14 hf (reportEffect hf)

/-- R193: a RESTART with 0xFF is answered and the reset then empties the queue; any other is answered RANGE. -/
def State.restart (s : State) (hf : Byte) : State :=
  if hf = allHeliostats then (s.answer 15 hf .done).softReset else s.answer 15 hf .range

/-- R102: a reserved kind is answered KIND. -/
def State.reserved (s : State) (kind hf : Byte) : State := s.answer kind hf .kind

/-- R102: a taken entry goes to the block that owns its kind (R204). -/
def State.takeEntry (s : State) (e : CommandEntry) : State :=
  match e.kind.toNat with
  | 1 => s.stowField e.heliostat
  | 2 => s.stowRelease e.heliostat
  | 3 => s.standbySet e.heliostat
  | 4 => s.standbyClear e.heliostat
  | 5 => s.hold e.heliostat e.param1 e.param2
  | 6 => s.holdRelease e.heliostat
  | 7 => s.serviceOut e.heliostat
  | 8 => s.serviceIn e.heliostat
  | 9 => s.correct e.heliostat e.param1 e.param2
  | 10 => s.rehome e.heliostat
  | 11 => s.defocusRelease e.heliostat
  | 12 => s.clearAlerts e.heliostat
  | 13 => s.clearSticky e.heliostat
  | 14 => s.report e.heliostat
  | 15 => s.restart e.heliostat
  | _ => s.reserved e.kind e.heliostat

/-- R102: the entry's target is this station or all stations. -/
def State.addressed (s : State) (e : CommandEntry) : Bool :=
  e.target.toNat == s.sc.number || e.target.toNat == 511

/-- R102, R193: an entry that resets the station when it is taken. -/
def restartsStation (e : CommandEntry) : Bool := e.kind == 15 && e.heliostat == allHeliostats

/-- R102: the entries of a frame in list order, up to a RESTART that is taken. -/
def State.takeEntries (s : State) : List CommandEntry → State
  | [] => s
  | e :: rest =>
    if s.addressed e then
      if restartsStation e then s.takeEntry e else (s.takeEntry e).takeEntries rest
    else s.takeEntries rest

/-! ## Meanings -/

def execStowField (hf : Byte) (s : State) : Host.Outcome State Fault Refusal :=
  .next (s.ifRunning fun s => s.stowField hf)

def execStowRelease (hf : Byte) (s : State) : Host.Outcome State Fault Refusal :=
  .next (s.ifRunning fun s => s.stowRelease hf)

def execStandbySet (hf : Byte) (s : State) : Host.Outcome State Fault Refusal :=
  .next (s.ifRunning fun s => s.standbySet hf)

def execStandbyClear (hf : Byte) (s : State) : Host.Outcome State Fault Refusal :=
  .next (s.ifRunning fun s => s.standbyClear hf)

def execHold (hf : Byte) (az el : Word) (s : State) : Host.Outcome State Fault Refusal :=
  .next (s.ifRunning fun s => s.hold hf az el)

def execHoldRelease (hf : Byte) (s : State) : Host.Outcome State Fault Refusal :=
  .next (s.ifRunning fun s => s.holdRelease hf)

def execServiceOut (hf : Byte) (s : State) : Host.Outcome State Fault Refusal :=
  .next (s.ifRunning fun s => s.serviceOut hf)

def execServiceIn (hf : Byte) (s : State) : Host.Outcome State Fault Refusal :=
  .next (s.ifRunning fun s => s.serviceIn hf)

def execCorrect (hf : Byte) (dAz dEl : Word) (s : State) : Host.Outcome State Fault Refusal :=
  .next (s.ifRunning fun s => s.correct hf dAz dEl)

def execRehome (hf : Byte) (s : State) : Host.Outcome State Fault Refusal :=
  .next (s.ifRunning fun s => s.rehome hf)

def execDefocusRelease (hf : Byte) (s : State) : Host.Outcome State Fault Refusal :=
  .next (s.ifRunning fun s => s.defocusRelease hf)

def execClearAlerts (hf : Byte) (s : State) : Host.Outcome State Fault Refusal :=
  .next (s.ifRunning fun s => s.clearAlerts hf)

def execClearSticky (hf : Byte) (s : State) : Host.Outcome State Fault Refusal :=
  .next (s.ifRunning fun s => s.clearSticky hf)

def execReport (hf : Byte) (s : State) : Host.Outcome State Fault Refusal :=
  .next (s.ifRunning fun s => s.report hf)

def execRestart (hf : Byte) (s : State) : Host.Outcome State Fault Refusal :=
  .next (s.ifRunning fun s => s.restart hf)

/-- A kind that R204 does not reserve is not this command and changes nothing (log entry 15). -/
def execReservedCommand (kind hf : Byte) (s : State) : Host.Outcome State Fault Refusal :=
  .next (s.ifRunning fun s => if reservedKind kind then s.reserved kind hf else s)

end Sys2Proof.Machine
end

