-- ==== Sys2Proof/Machine/Peers.lean ====
section
/-! DEFINITION. The Peer Table (chapter 8): the filtered list of a contribution frame, hits and misses, eviction into
residue, ageing and expiry. -/

namespace Sys2Proof.Machine

/-- R142, steps 2 and 3: items in the order of the frame, of interest and not yet kept for their zone. -/
def keepItems (zones : List Nat) : List FrameItem → List PlanItem → List PlanItem
  | [], kept => kept
  | i :: rest, kept =>
    if zones.contains i.zone.toNat && (itemFor kept i.zone.toNat).isNone then
      keepItems zones rest (kept ++ [{ zone := i.zone.toNat, planned := i.planned.toNat, want := i.want }])
    else keepItems zones rest kept

/-- R139, R142: an item that plans, wants, or does both. -/
def PlanItem.relevant (i : PlanItem) : Bool := i.planned != 0 || i.want

/-- R142: the filtered list of a frame that shows a station state (1 OPERATING, 2 ISOLATED, 3 NIGHT), in
ascending zone order. -/
def filteredList (zones : List Nat) (state : Byte) (items : List FrameItem) : List PlanItem :=
  if state.toNat = 1 ∨ state.toNat = 2 ∨ state.toNat = 3 then
    let kept := (keepItems zones items []).map fun i => { i with want := i.want && state.toNat != 2 }
    let relevant := kept.filter PlanItem.relevant
    zones.filterMap fun z => itemFor relevant z
  else []

/-- R143: a way holds a valid entry of a station. -/
def holdsStation (way : Option PeerEntry) (station : Nat) : Bool :=
  match way with
  | none => false
  | some e => e.station == station

/-- R143: the way of a set that holds a station, if any (true is way 1). -/
def PeerSet.hit (st : PeerSet) (station : Nat) : Option Bool :=
  if holdsStation st.way0 station then some false
  else if holdsStation st.way1 station then some true
  else none

/-- A way of a set. -/
def PeerSet.way (st : PeerSet) (way1 : Bool) : Option PeerEntry := if way1 then st.way1 else st.way0

/-- A set with one way replaced. -/
def PeerSet.setWay (st : PeerSet) (way1 : Bool) (e : Option PeerEntry) : PeerSet :=
  if way1 then { st with way1 := e } else { st with way0 := e }

/-- R147: the way a miss fills. -/
def PeerSet.victim (st : PeerSet) : Bool :=
  match st.way0, st.way1 with
  | some _, none => true
  | none, some _ => false
  | none, none | some _, some _ => st.lru

/-- R144, R147: a way written from a frame; the LRU bit names the other way. -/
def PeerSet.write (st : PeerSet) (way1 : Bool) (station : Nat) (items : List PlanItem) : PeerSet :=
  { (st.setWay way1 (some { station := station, age := 0, items := items })) with lru := !way1 }

/-- R145: a way invalidated by a hit; the LRU bit names it. -/
def PeerSet.invalidate (st : PeerSet) (way1 : Bool) : PeerSet :=
  { (st.setWay way1 none) with lru := way1 }

/-- R148: the planned value of an evicted entry for a zone joins the residue of the zone. -/
def Residue.absorb (r : Residue) (items : List PlanItem) (expiry : BitVec 32) : Residue :=
  if plannedFor items r.zone = 0 then r
  else { r with value := satAdd r.value (plannedFor items r.zone), expiry := expiry }

/-- R148: an addition to a residue record saturates. -/
def Residue.saturates (r : Residue) (items : List PlanItem) : Bool :=
  plannedFor items r.zone != 0 && max16 < r.value + plannedFor items r.zone

/-- R148: an evicted entry's planned values move into residue; a saturated sum sets ZONE-SAT. -/
def State.evict (s : State) (e : Option PeerEntry) : State :=
  match e with
  | none => s
  | some e =>
    let expiry := s.bi.epoch + BitVec.ofNat 32 s.cfg.peerAgeMax
    { s with
      pt := { s.pt with residue := s.pt.residue.map fun r => r.absorb e.items expiry }
      fa := { s.fa with zoneSat := s.fa.zoneSat || s.pt.residue.any fun r => r.saturates e.items } }

/-- R139: the set of a peer is its station number modulo 32. -/
def peerSetOf (station : Nat) : Fin 32 := ⟨station % 32, Nat.mod_lt _ (by decide)⟩

/-- A set of the table replaced. -/
def State.setPeerSet (s : State) (i : Fin 32) (st : PeerSet) : State :=
  { s with pt := { s.pt with sets := s.pt.sets.set i st } }

/-- R143 to R147: the filtered list of a peer is looked up in the peer's set. -/
def State.lookUpPeer (s : State) (station : Nat) (items : List PlanItem) : State :=
  let i := peerSetOf station
  let st := s.pt.sets[i]
  match st.hit station with
  | some w => s.setPeerSet i (if items.isEmpty then st.invalidate w else st.write w station items)
  | none =>
    if items.isEmpty then s
    else (s.evict (st.way st.victim)).setPeerSet i (st.write st.victim station items)

/-- R141 to R147: a contribution frame of another station is taken by the Peer Table. -/
def State.takeContribution (s : State) (station : Nat) (state : Byte) (items : List FrameItem) : State :=
  s.lookUpPeer station (filteredList s.interest state items)

/-- R150: an entry one epoch start older. -/
def olderEntry : Option PeerEntry → Option PeerEntry
  | none => none
  | some e => some { e with age := e.age + 1 }

/-- R150: an entry whose age is above PEER_AGE_MAX is invalidated, with nothing added to residue. -/
def expireEntry (maxAge : Nat) : Option PeerEntry → Option PeerEntry
  | none => none
  | some e => if maxAge < e.age then none else some e

/-- R150: the ages of a set increase by one. -/
def PeerSet.older (st : PeerSet) : PeerSet :=
  { st with way0 := olderEntry st.way0, way1 := olderEntry st.way1 }

/-- R150: one way of a set after the age test; the LRU bit is unchanged. -/
def PeerSet.expireWay (st : PeerSet) (maxAge : Nat) (way1 : Bool) : PeerSet :=
  st.setWay way1 (expireEntry maxAge (st.way way1))

/-- R151: a residue record whose expiry epoch is the local epoch count becomes 0. -/
def Residue.expire (r : Residue) (now : BitVec 32) : Residue :=
  if r.value ≠ 0 ∧ r.expiry = now then { r with value := 0 } else r

/-- R150, R151: the Peer Table at an epoch start. -/
def PeerTable.atEpoch (pt : PeerTable) (maxAge : Nat) (now : BitVec 32) : PeerTable :=
  { sets := mapEach (fun _ st => ((st.older).expireWay maxAge false).expireWay maxAge true) pt.sets
    residue := pt.residue.map fun r => r.expire now }

/-- The residue of a zone (R149). -/
def PeerTable.residueFor (pt : PeerTable) (z : Nat) : Nat :=
  match pt.residue.find? fun r => r.zone == z with
  | none => 0
  | some r => r.value

/-- Every valid entry of the table. -/
def PeerTable.entries (pt : PeerTable) : List PeerEntry :=
  pt.sets.toList.flatMap fun st => st.way0.toList ++ st.way1.toList

/-- R164: the exact sum of the planned values of all entries and the residue of a zone. -/
def PeerTable.exactSum (pt : PeerTable) (z : Nat) : Nat :=
  (pt.entries.map fun e => plannedFor e.items z).sum + pt.residueFor z

/-- R164: K_z, this station and every valid entry that holds an item for the zone. -/
def PeerTable.claimants (pt : PeerTable) (z : Nat) : Nat :=
  1 + (pt.entries.filter fun e => (itemFor e.items z).isSome).length

end Sys2Proof.Machine
end

