-- ==== Sys2Proof/Machine/Frames.lean ====
section
/-! DEFINITION. Received frames (R90 to R94): which are checked, what each valid frame does, what a dropped frame counts,
and the meanings of the six frame rows. -/

namespace Sys2Proof.Machine

/-- R90: a frame that began in the own slot of an epoch in which the station has begun its own frame is exempt; `past`
says so for an epoch that is over (log entry 20). -/
def State.exempt (s : State) (slot : Nat) (past : Option Bool) : Bool :=
  slot == s.sc.number && past.getD s.bi.tx.begunNow

/-- R90, R92, R135: a frame that began in a slot is checked and dispatched: from the end of a load that passes, not
while the code is generated or the line has not gone idle after it, and not where it is exempt. -/
def State.accepts (s : State) (slot : Nat) (past : Option Bool := none) : Bool :=
  s.running && !s.dcu.generating && !s.bi.rx.held && !s.exempt slot past

/-- R93, R94: a valid frame is heard. -/
def State.hear (s : State) : State :=
  { s with bi := { s.bi with quietSlots := 0, busLost := false, heardEpoch := true } }

/-- R191: the states in which a frame with the own number takes the station to SILENT. -/
def StationState.sends : StationState → Bool
  | .operating | .isolated | .night => true
  | .loading | .configFault | .syncing | .silent => false

/-- R191: the epoch start of this very instant has left the station in SYNCING, in phase LISTEN. -/
def State.listensFromNow (s : State) : Bool := s.sc.state == .syncing && s.sc.listen && s.bi.epochNow

/-- R92, R94, R191: a valid frame with this station's own number. It takes the station to SILENT where the station sends, and
also where it is taken after the epoch start of its own instant, from whatever state the tests left (log entry 52);
otherwise a station in SYNCING leaves it to the next epoch start (R186). -/
def State.hearOwnNumber (s : State) : State :=
  let t := { s with bi := { s.bi with heardOwnSlot := true } }
  if t.sc.state.sends || t.listensFromNow then t.becomeSilent else t

/-- R92: a valid frame is heard and dispatched by its kind and sender. -/
def State.takeFrame (s : State) (slot : Nat) (body : FrameBody) : State :=
  let heard := s.change State.hear
  match body with
  | .sun s0 r => heard.takeSun ⟨slot % 8, Nat.mod_lt _ (by decide)⟩ s0 r
  | .receiver st zones => heard.change fun s => s.takeReceiver st zones
  | .command entries => heard.takeEntries entries
  | .contribution st items =>
    if slot = s.sc.number then heard.change State.hearOwnNumber
    else heard.change fun s => s.takeContribution slot st items

/-- R91: what the checks 4 to 6 find in a frame whose fields are given: a slot no frame begins in, a CONTRIBUTION frame
from a reference slot, a count out of range (log entry 14). -/
def FrameBody.fails (slot : Nat) : FrameBody → Option DropCheck
  | .sun _ _ => none
  | .receiver _ zones => if 1 ≤ zones.length ∧ zones.length ≤ 32 then none else some .length
  | .command entries => if 1 ≤ entries.length ∧ entries.length ≤ 8 then none else some .length
  | .contribution _ items =>
    if 400 ≤ slot then some .slot
    else if slot < 8 then some .kind
    else if items.length ≤ 8 then none
    else some .length

/-- R91, R92: a frame ends, its fields already read. -/
def State.receiveBody (s : State) (slot : Nat) (body : FrameBody) : State :=
  if s.accepts slot then
    match body.fails slot with
    | some check => s.count fun c => c.drop check
    | none => s.takeFrame slot body
  else s

/-- R90, R91: a frame ends as the receiver holds it. -/
def State.receiveRaw (s : State) (raw : RawFrame) : State :=
  if s.accepts raw.slot raw.past then
    match judge raw with
    | .dropped check => s.count fun c => c.drop check
    | .valid body => s.takeFrame raw.slot body
  else s

/-! ## Meanings -/

def execSunFrame (slot : Fin 8) (s0 r : FrameVec) (s : State) : Host.Outcome State Fault Refusal :=
  .next (s.receiveBody slot.val (.sun s0 r))

def execReceiverFrame (slot : Fin 8) (state : Byte) (zones : List ZoneReading) (s : State) :
    Host.Outcome State Fault Refusal :=
  .next (s.receiveBody slot.val (.receiver state zones))

/-- A frame whose sender is this station is the frame of OWN_NUMBER_FRAME (R92). -/
def execContributionFrame (sender : Nat) (state : Byte) (items : List FrameItem) (s : State) :
    Host.Outcome State Fault Refusal :=
  .next (s.receiveBody sender (.contribution state items))

def execOwnNumberFrame (s : State) : Host.Outcome State Fault Refusal :=
  .next (if s.accepts s.sc.number then s.takeFrame s.sc.number (.contribution 1 []) else s)

/-- A frame that passes every check is dispatched and not dropped (log entry 13). -/
def execFrameDropped (raw : RawFrame) (s : State) : Host.Outcome State Fault Refusal :=
  .next (s.receiveRaw raw)

def execCommandFrame (slot : Fin 8) (entries : List CommandEntry) (s : State) :
    Host.Outcome State Fault Refusal :=
  .next (s.receiveBody slot.val (.command entries))

end Sys2Proof.Machine
end

