-- ==== Sys2Proof/Machine/Allocation.lean ====
section
/-! DEFINITION. The Flux Allocator (chapter 9): zone values, allowances, the keep pass and the place pass, the
contribution lists of builds, and the completion of a frame. -/

namespace Sys2Proof.Machine

/-- R164: the limit of a zone. -/
def State.zoneLimit (s : State) (z : Nat) : Nat := (s.rs.zoneFlux z).limit

/-- R164: the measured flux of a zone. -/
def State.zoneMeasured (s : State) (z : Nat) : Nat := (s.rs.zoneFlux z).measured

/-- R164: Peer_z, summed with saturation. -/
def State.peerFlux (s : State) (z : Nat) : Nat := min (s.pt.exactSum z) max16

/-- R164: O_z, the published value of a zone. -/
def State.published (s : State) (z : Nat) : Nat := plannedFor s.fa.plan z

/-- R165: Others_z, the greater of the peers' plans and the measured flux less what this station published. -/
def State.othersFlux (s : State) (z : Nat) : Nat :=
  max (s.peerFlux z) (s.zoneMeasured z - s.published z)

/-- R165: Hd_z, the headroom, floored at 0. -/
def State.headroom (s : State) (z : Nat) : Nat := s.zoneLimit z - s.othersFlux z

/-- R166: A_z, the allowance. -/
def State.allowance (s : State) (z : Nat) : Nat :=
  if s.headroom z ≤ s.published z then s.headroom z
  else s.published z + (s.headroom z - s.published z) / s.pt.claimants z

/-- R168: the budgets of one zone during the two passes: remaining and keep room. -/
structure ZoneBudget where
  zone      : Nat
  remaining : Nat
  keepRoom  : Nat
deriving DecidableEq, Repr

/-- R168: the budgets an allocation starts with. -/
def State.startBudgets (s : State) : List ZoneBudget :=
  s.interest.map fun z =>
    { zone := z, remaining := s.allowance z, keepRoom := min (s.allowance z) (s.published z) }

/-- The budget of a zone. -/
def budgetFor (bs : List ZoneBudget) (z : Nat) : Option ZoneBudget := bs.find? fun b => b.zone == z

/-- A budget list with both values of a zone reduced (R169) or the remaining alone (R170). -/
def spend (bs : List ZoneBudget) (z p : Nat) (keep : Bool) : List ZoneBudget :=
  bs.map fun b =>
    if b.zone = z then
      { b with remaining := b.remaining - p, keepRoom := if keep then b.keepRoom - p else b.keepRoom }
    else b

/-- R168: an index goes before another when its P is larger, or equal with a lower index. -/
def ranksBefore (helios : Vector Helio 8) (i j : Fin 8) : Bool :=
  helios[j].p < helios[i].p || (helios[i].p == helios[j].p && i.val < j.val)

/-- Insertion into a list in the order of R168. -/
def insertRanked (helios : Vector Helio 8) (i : Fin 8) : List (Fin 8) → List (Fin 8)
  | [] => [i]
  | j :: rest => if ranksBefore helios i j then i :: j :: rest else j :: insertRanked helios i rest

/-- R168: the eligible heliostats, the largest P first, equal P by index. -/
def rankedEligible (helios : Vector Helio 8) : List (Fin 8) :=
  ((List.finRange 8).filter fun i => helios[i].eligible).foldr (insertRanked helios) []

/-- What the two passes work on: the heliostats, the budgets, and the zones wanted. -/
structure PassState where
  helios  : Vector Helio 8
  budgets : List ZoneBudget
  wanted  : List Nat
deriving DecidableEq, Repr

/-- R169: the budget in which an assigned heliostat fits. A heliostat with P 0 fits a zone with allowance 0, where R123
and R165 say that none is kept: the tests of R169 are followed, the model's choice (log entry 57). -/
def keepBudget (cfg : StationConfig) (bs : List ZoneBudget) (h : Helio) : Option ZoneBudget :=
  match h.assignment with
  | none => none
  | some ap =>
    match cfg.zoneOf ap with
    | none => none
    | some z =>
      match budgetFor bs z with
      | none => none
      | some b => if h.p ≤ b.remaining ∧ h.p ≤ b.keepRoom then some b else none

/-- R169: the keep pass takes one eligible heliostat. -/
def keepOne (cfg : StationConfig) (ps : PassState) (i : Fin 8) : PassState :=
  let h := ps.helios[i]
  match keepBudget cfg ps.budgets h with
  | some b =>
    { ps with helios := ps.helios.set i { h with countedP := h.p }
              budgets := spend ps.budgets b.zone h.p true }
  | none => { ps with helios := ps.helios.set i { h with assignment := none } }

/-- R170: a candidate whose zone has the remaining for a heliostat's P. With P 0 a zone with allowance 0 has it, where
R123 and R165 say that none is placed: the test of R170 is followed, the model's choice (log entry 57). -/
def placeable (cfg : StationConfig) (bs : List ZoneBudget) (p ap : Nat) : Bool :=
  match cfg.zoneOf ap with
  | none => false
  | some z =>
    match budgetFor bs z with
    | none => false
    | some b => p ≤ b.remaining

/-- R170: the zone of a heliostat's first candidate. -/
def firstZone (cfg : StationConfig) (h : Helio) : List Nat :=
  match h.cfg.candidates.head? with
  | none => []
  | some ap => (cfg.zoneOf ap).toList

/-- R170: the place pass takes one eligible heliostat that the keep pass did not keep. -/
def placeOne (cfg : StationConfig) (ps : PassState) (i : Fin 8) : PassState :=
  let h := ps.helios[i]
  if h.assignment.isSome then ps
  else
    match h.cfg.candidates.find? (placeable cfg ps.budgets h.p) with
    | some ap =>
      { ps with helios := ps.helios.set i { h with deferred := some ap, placementP := h.p }
                budgets := match cfg.zoneOf ap with
                  | none => ps.budgets
                  | some z => spend ps.budgets z h.p false }
    | none => { ps with wanted := ps.wanted ++ firstZone cfg h }

/-- R162, R168: the heliostats as the passes find them: every deferred placement emptied, every ineligible
heliostat on standby. -/
def readyForPasses (helios : Vector Helio 8) : Vector Helio 8 :=
  mapEach (fun _ h =>
    { h with deferred := none, placementP := 0
             assignment := if h.eligible then h.assignment else none }) helios

/-- R168 to R170: the two passes. -/
def State.passes (s : State) : PassState :=
  let order := rankedEligible s.helios
  let kept := order.foldl (keepOne s.cfg)
    { helios := readyForPasses s.helios, budgets := s.startBudgets, wanted := [] }
  order.foldl (placeOne s.cfg) kept

/-- R172: the contribution list of an allocation: for each interest zone its planned value and its want flag. -/
def State.contributionList (s : State) (ps : PassState) : List PlanItem :=
  s.interest.map fun z =>
    { zone := z
      planned := match budgetFor ps.budgets z with
        | none => 0
        | some b => s.allowance z - b.remaining
      want := ps.wanted.contains z }

/-- R164, R167: a Peer_z sum of an interest zone saturates. -/
def State.peerSumSaturates (s : State) : Bool := s.interest.any fun z => max16 < s.pt.exactSum z

/-- R162 to R172: an allocation. -/
def State.allocate (s : State) : State :=
  { s with
    helios := s.passes.helios
    fa := { s.fa with
      carried := s.contributionList s.passes
      zoneSat := s.fa.zoneSat || s.peerSumSaturates } }

/-- R173: the published plan repeated, one item for each zone of the interest set. -/
def State.repeatedList (s : State) : List PlanItem :=
  s.interest.map fun z => { zone := z, planned := s.published z, want := wantFor s.fa.plan z }

/-- R162, R173: the Flux Allocator at a build: an allocation in OPERATING, the published plan in ISOLATED, an
empty list in NIGHT. -/
def State.supplyPlan (s : State) : State :=
  match s.sc.state with
  | .operating => s.allocate
  | .isolated => { s with fa := { s.fa with carried := s.repeatedList } }
  | .loading | .configFault | .syncing | .night | .silent => { s with fa := { s.fa with carried := [] } }

/-- R174: a deferred placement still held is applied at completion; the placement P that goes with it becomes 0, as it
does wherever a deferred placement is emptied (the model's choice, log entry 49). -/
def Helio.applyPlacement (h : Helio) : Helio :=
  match h.deferred with
  | none => h
  | some ap => { h with assignment := some ap, countedP := h.placementP, deferred := none, placementP := 0 }

/-- R174: the published plan records after a completion. -/
def publishedPlan (interest : List Nat) (carried : List PlanItem) : List PlanItem :=
  interest.map fun z => { zone := z, planned := plannedFor carried z, want := wantFor carried z }

/-- R174: the Flux Allocator at transmit completion. -/
def State.publish (s : State) : State :=
  { s with
    helios := mapEach (fun _ h => h.applyPlacement) s.helios
    fa := { s.fa with plan := publishedPlan s.interest s.fa.carried, carried := [] } }

end Sys2Proof.Machine
end

