-- ==== Sys2Proof/Machine/Sending.lean ====
section
/-! DEFINITION. The station's own frame (R95 to R97, R105, R107): its build, its beginning, its completion, an echo
mismatch, and the meanings of the four rows. -/

namespace Sys2Proof.Machine

/-! ## The build -/

/-- R95: the station will send a frame in the own slot that now starts. -/
def State.willBuild (s : State) : Bool :=
  s.running && s.frameAllowed && !s.dcu.generating && s.bi.tx.phase == .empty && !s.bi.tx.builtNow &&
    s.bi.inOwnSlot && s.bi.timer == 5000 * s.sc.number

/-- R105, R107, R197: the marks of what the frame carries, and the counter values it carries. -/
def State.markCarried (s : State) : State :=
  { s with
    au := { s.au with carried := s.au.latches }
    bi := { s.bi with
      outcomes := s.bi.outcomes.map fun o => { o with carried := true }
      lostSinceBuild := false
      reportCarried := s.bi.report.isSome
      tx := { s.bi.tx with
        counters := if s.bi.report = some .counters then some s.bi.counters else none } } }

/-- R95: the bytes of the frame go into the transmit buffer. -/
def State.storeFrame (s : State) (bytes : List Byte) : State :=
  { s with bi := { s.bi with tx := { s.bi.tx with phase := .built, bytes := bytes, micros := 0, builtNow := true } } }

/-- R95, R162, R173: the build. -/
def State.buildFrame (s : State) : State :=
  let t := s.change State.supplyPlan
  t.markCarried.storeFrame t.frameBytes

/-! ## The frame on the line -/

/-- R95: the built frame begins. -/
def State.beginSending (s : State) : State :=
  { s with bi := { s.bi with tx := { s.bi.tx with phase := .sending, micros := 0, begunNow := true } } }

/-- R95: 100 µs into the own slot the built frame begins, or is withheld where it may not. -/
def State.frameStart (s : State) : State :=
  if s.bi.tx.phase = .built then
    if s.frameAllowed && !s.dcu.generating then s.beginSending else s.cutFrame
  else s

/-! ## Completion -/

/-- R107: one counter reduced by the value the frame carried for it. -/
def Counters.reduce (c carried : Counters) : Counters :=
  { crc := c.crc - carried.crc
    framing := c.framing - carried.framing
    length := c.length - carried.length
    slot := c.slot - carried.slot
    kind := c.kind - carried.kind
    collisions := c.collisions - carried.collisions
    resyncs := c.resyncs - carried.resyncs
    aborts := c.aborts - carried.aborts
    refused := c.refused - carried.refused
    indexResyncs := c.indexResyncs - carried.indexResyncs }

/-- R107: the counters after the completion of a frame. -/
def Counters.settle (c : Counters) : Option Counters → Counters
  | none => c
  | some carried => c.reduce carried

/-- R197: the carried latches that are still set receive their published marks. -/
def AlertUnit.publish (au : AlertUnit) : AlertUnit :=
  { au with published := au.published ||| (au.latches &&& au.carried), carried := 0 }

/-- R96, R105, R107: the Bus Interface at completion. -/
def BusInterface.complete (bi : BusInterface) : BusInterface :=
  { bi with
    outcomes := bi.outcomes.filter fun o => !o.carried
    outcomesLost := bi.lostSinceBuild
    report := if bi.reportCarried then none else bi.report
    reportCarried := false
    counters := bi.counters.settle bi.tx.counters
    tx := bi.tx.emptied }

/-- R96, R174: transmit completion. -/
def State.completeFrame (s : State) : State :=
  let t := s.publish
  { t with au := t.au.publish, bi := t.bi.complete }

/-! ## Echo mismatch -/

/-- R97: the frame is aborted at a bit that reads back otherwise than driven. -/
def State.echoAbort (s : State) : State :=
  let t := s.cutFrame
  { t with bi := { t.bi with mismatch := true } }

/-! ## Meanings: each where the transmitter's state brings the event (log entry 15) -/

def execBuild (s : State) : Host.Outcome State Fault Refusal :=
  .next (if s.willBuild then s.buildFrame else s)

def execFrameBegin (s : State) : Host.Outcome State Fault Refusal :=
  .next (s.ifRunning State.frameStart)

def execTransmitCompletion (s : State) : Host.Outcome State Fault Refusal :=
  .next (s.ifRunning fun s => if s.bi.tx.phase = .sending then s.completeFrame else s)

def execEchoMismatch (s : State) : Host.Outcome State Fault Refusal :=
  .next (s.ifRunning fun s => if s.bi.tx.phase = .sending then s.echoAbort else s)

end Sys2Proof.Machine
end

