-- ==== Sys2Proof/Machine/Aiming.lean ====
section
/-! DEFINITION. The Aim Computation Unit (chapter 2): geometry, corrections, step targets, contribution estimates, and
the turns of a tick. -/

namespace Sys2Proof.Machine

/-- R25, R26: the mirror normal of a geometry from the sun vector, the pivot and the point aimed at. The load refuses
the images in which the target direction is degenerate; there no geometry is formed (log entry 19). -/
def mirrorNormal (sun pivot point : Vec3) : Option Vec3 :=
  match unitScale (Vec3.sub point pivot) with
  | none => none
  | some t => some (Vec3.add sun t)

/-- R30: the normal is (0, 0, 0). -/
def zeroNormal (v : Vec3) : Bool := v.e == 0 && v.n == 0 && v.u == 0

/-- R31: the incidence cosine of a geometry. -/
def incidenceCosine (n : Vec3) : Nat := min (Vec3.length n) 32767

/-- R27, R29: the azimuth of a target computation. -/
def aimAzimuth (n : Vec3) (lastAz : Nat) : Nat :=
  if Vec3.horizontal n = 0 then lastAz else azimuthOf n.e n.n

/-- R28, R29: the elevation of a target computation. -/
def aimElevation (n : Vec3) : Int :=
  if Vec3.horizontal n = 0 then (if 0 < n.u then 16384 else -16384)
  else elevationOf n.u (Vec3.horizontal n)

/-- R34: the elevation steps before the clamp. -/
def elevationSteps (prm : AxisParams) (elc : Int) : Int := roundDiv ((elc - prm.zero) * prm.spt) 65536

/-- R35: the azimuth steps of one winding. -/
def windingSteps (prm : AxisParams) (azc : Int) (j : Int) : Int :=
  roundDiv ((wrapAngle (azc - prm.zero) + j * 65536) * prm.spt) 65536

/-- R35: the three candidates in the order of preference: j = 0, j = −1, j = +1. -/
def windings (prm : AxisParams) (azc : Int) : List Int :=
  [windingSteps prm azc 0, windingSteps prm azc (-1), windingSteps prm azc 1]

/-- R36: a candidate lies within the limits. -/
def AxisParams.within (prm : AxisParams) (x : Int) : Bool := prm.softMin ≤ x && x ≤ prm.softMax

/-- The first entry of a list with the least cost. -/
def leastBy (cost : Int → Nat) : List Int → Option Int
  | [] => none
  | x :: rest =>
    match leastBy cost rest with
    | none => some x
    | some y => if cost x ≤ cost y then some x else some y

/-- R37: how far a candidate lies beyond the limits. -/
def AxisParams.excess (prm : AxisParams) (x : Int) : Nat :=
  if x < prm.softMin then (prm.softMin - x).toNat else (x - prm.softMax).toNat

/-- R36, R37: the azimuth target, and whether a clamp chose it. -/
def azimuthTarget (prm : AxisParams) (current azc : Int) : Int × Bool :=
  match leastBy (fun x => (x - current).natAbs) ((windings prm azc).filter prm.within) with
  | some x => (x, false)
  | none =>
    match leastBy prm.excess (windings prm azc) with
    | some x => (if x < prm.softMin then prm.softMin else prm.softMax, true)
    | none => (current, false)

/-- R32: the corrected azimuth. -/
def correctedAz (az : Nat) (dAz : Int) : Int := ((az : Int) + dAz) % 65536

/-- R26 to R38: a target computation with a normal; a zero normal sets GEOM and writes nothing else. -/
def Helio.aimAlong (h : Helio) (n : Vec3) : Helio :=
  if zeroNormal n then { h with geom := true }
  else
    let az := aimAzimuth n h.lastAz
    let el := aimElevation n
    let elRaw := elevationSteps h.el.prm (el + h.dEl)
    let azT := azimuthTarget h.az.prm h.az.target (correctedAz az h.dAz)
    { h with
      lastAz := az
      lastEl := el
      limit := h.limit || azT.2 || h.el.soft elRaw != elRaw
      az := h.az.writeTarget azT.1
      el := h.el.writeTarget (h.el.soft elRaw) }

/-- R30, R31, R39: an estimate computation with a normal. -/
def Helio.estimateFrom (h : Helio) (irradiance : Nat) (n : Vec3) : Helio :=
  { h with
    geom := h.geom || zeroNormal n
    c := incidenceCosine n
    p := estimateP irradiance h.cfg.area (incidenceCosine n) h.cfg.delivery }

/-- R22: the point a target computation aims at, if one is made. -/
def Helio.aimPoint (h : Helio) (cfg : StationConfig) : Option Vec3 :=
  match h.engaged with
  | .track =>
    match h.assignment with
    | none => some cfg.standby
    | some ap =>
      match cfg.aims[ap]? with
      | none => none
      | some a => some a.pos
  | .standby => some cfg.standby
  | .none | .stow | .defocus | .hold => none

/-- R40: the point of the estimate computation, the first candidate. -/
def Helio.estimatePoint (h : Helio) (cfg : StationConfig) : Option Vec3 :=
  match h.cfg.candidates.head? with
  | none => none
  | some ap =>
    match cfg.aims[ap]? with
    | none => none
    | some a => some a.pos

/-- The normal toward a point, if the computation has a point. -/
def Helio.normalToward (h : Helio) (sun : Vec3) (point : Option Vec3) : Option Vec3 :=
  match point with
  | none => none
  | some p => mirrorNormal sun h.cfg.pivot p

/-- R22, R41: the target computation of a turn. -/
def Helio.targetPart (h : Helio) (cfg : StationConfig) (sun : Vec3) : Helio :=
  match h.normalToward sun (h.aimPoint cfg) with
  | none => h
  | some n => h.aimAlong n

/-- R22, R41: the estimate computation of a turn. -/
def Helio.estimatePart (h : Helio) (cfg : StationConfig) (irradiance : Nat) (sun : Vec3) : Helio :=
  match h.normalToward sun (h.estimatePoint cfg) with
  | none => h
  | some n => h.estimateFrom irradiance n

/-- R22: a heliostat's turn. -/
def Helio.turn (h : Helio) (cfg : StationConfig) (irradiance : Nat) (sun : Vec3) : Helio :=
  if h.computed then (h.targetPart cfg sun).estimatePart cfg irradiance sun else h

/-- R21: the turn of one heliostat of the station. -/
def State.takeTurn (s : State) (sun : Vec3) (i : Fin 8) : State :=
  s.updateHelio i fun h => h.turn s.cfg s.irm.h sun

/-- R21, R22: the turns from one heliostat on, as many as are left before another, each seen by the Alert Unit. -/
def State.takeTurns (s : State) (sun : Vec3) : List (Fin 8) → State
  | [] => s
  | i :: rest => (s.change fun s => s.takeTurn sun i).takeTurns sun rest

/-- The heliostats whose turns lie from one turn up to, and less, another. -/
def turnsBetween (start stop : Nat) : List (Fin 8) :=
  (List.finRange 8).filter fun i => start ≤ i.val && i.val < stop

/-- R21: a tick in progress takes its turns before the turn it pauses at; after the eighth it is over. -/
def State.continueTick (s : State) (t : TickProgress) (stop : Nat) : State :=
  let turned := s.takeTurns t.sun (turnsBetween t.turn stop)
  { turned with acu := { turned.acu with
      tick := if 8 ≤ max t.turn stop then none else some { t with turn := max t.turn stop } } }

end Sys2Proof.Machine
end

