-- ==== Sys2Proof/Machine/AimTick.lean ====
section
/-! DEFINITION. Scheduled aim ticks (R19 to R23, R116, R118, R190): the sun evaluation, the SUN source, the dawn test,
and the turns; the meaning of AIM_TICK. -/

namespace Sys2Proof.Machine

/-- R118: the dawn test. -/
def State.dawnMet (s : State) (sun : Vec3) : Bool := s.sc.state == .night && s.cfg.dawnSu ≤ sun.u

/-- R190 step 1: the dawn re-home, for an image that asks for it. -/
def State.dawnRehome (s : State) : State := if s.cfg.dawnRehome then s.rehomeAll else s

/-- R118, R190: the station leaves NIGHT for OPERATING. -/
def State.dawn (s : State) : State :=
  let t := { s with rs := { s.rs with nightCount := 0 } }
  (((t.change State.dawnRehome).change fun s => s.setSources fun src => { src with stowNight := false })).change
    fun s => s.toState .operating

/-- R20: the station state lets a tick compute. -/
def StationState.computes : StationState → Bool
  | .syncing | .operating | .isolated | .silent => true
  | .loading | .configFault | .night => false

/-- R21: the tick's turns begin with a sun vector, and those before one turn are taken now. -/
def State.beginTurns (s : State) (sun : Vec3) (stop : Nat) : State :=
  if s.sc.state.computes then s.continueTick { sun := sun, turn := 0, micros := 0 } stop else s

/-- R20, R23, R116, R118: a scheduled tick from its sun evaluation on. Where a tick of NIGHT finds the sun valid again
and the dawn, SUN is withdrawn before the dawn is passed, of two orders that R68 allows (log entry 48). -/
def State.evaluateTick (s : State) (sun : Option Vec3) (stop : Nat) : State :=
  let t := s.change fun s => s.updateSunSource sun.isNone
  match sun with
  | none => t
  | some v => if t.dawnMet v then t.dawn.beginTurns v stop else t.beginTurns v stop

/-- R19: an instant at which a tick falls: within the epoch, at a whole number of AIM_PERIODs. -/
def StationConfig.tickAt (cfg : StationConfig) (offset : Nat) : Bool :=
  cfg.aimPeriod != 0 && offset % cfg.aimPeriod == 0 && offset < 2000

/-- R19: the tick of the last epoch start is no longer due. -/
def State.tickTaken (s : State) (offset : Nat) : State :=
  { s with acu := { s.acu with due := if offset = 0 then none else s.acu.due } }

/-- R113, R116: what a tick's sun evaluation finds: that of an epoch start's tick, what the epoch start's own evaluation
found, whatever has come since. -/
def State.tickSun (s : State) (offset : Nat) : Option Vec3 :=
  (if offset = 0 then s.acu.due else none).getD (s.evalSun offset)

/-- R19 to R23: a scheduled tick, its turns taken before one turn; none is scheduled before the first epoch start
after a reset. -/
def State.startTick (s : State) (offset stop : Nat) : State :=
  if s.acu.scheduled && s.cfg.tickAt offset then (s.tickTaken offset).evaluateTick (s.tickSun offset) stop else s

/-- R19: the tick of an epoch start is taken once, and where a time mark of this instant has started an epoch first, a tick
that was due in the old one is not taken. -/
def State.tickStands (s : State) (offset : Nat) : Bool := if offset = 0 then s.acu.due.isSome else s.bi.timerInstant != .cut

/-- R21: a tick in progress goes on; otherwise the tick of an instant begins. -/
def State.aimTick (s : State) (offset stop : Nat) : State :=
  match s.acu.tick with
  | some t => s.continueTick t stop
  | none => if s.tickStands offset then s.startTick offset stop else s

/-- R21: a tick in progress takes all its turns, so that it ends before the next tick falls. -/
def State.finishTick (s : State) : State :=
  match s.acu.tick with
  | some t => s.continueTick t 8
  | none => s

def execAimTick (offset stop : Nat) (s : State) : Host.Outcome State Fault Refusal :=
  .next (s.ifRunning fun s => s.aimTick offset stop)

end Sys2Proof.Machine
end

