-- ==== Sys2Proof/Machine/StationTests.lean ====
section
/-! DEFINITION. The tests of the Station Controller (R185 to R191) and the meanings of the three entry rows. -/

namespace Sys2Proof.Machine

/-- R99, R185: the collision run has reached 3. -/
def State.runReached (s : State) : Bool := 3 ≤ s.bi.collisionRun

/-- R187: the iso count as an epoch start in OPERATING or NIGHT leaves it. -/
def State.nextIsoCount (s : State) : Nat := if s.bi.busLost then min (s.sc.isoCount + 1) 16 else 0

/-- R187: the iso count, updated, reaches ISO_EPOCHS. -/
def State.isoReached (s : State) : Bool := s.bi.busLost && s.cfg.isoEpochs ≤ s.nextIsoCount

/-- R187: the updated iso count is stored. -/
def State.storeIsoCount (s : State) : State := { s with sc := { s.sc with isoCount := s.nextIsoCount } }

/-- R185, R191: the first test of the state's row sends the station to SILENT. -/
def State.silentDecided (s : State) : Bool :=
  match s.sc.state with
  | .syncing => s.bi.heardOwnSlot
  | .operating | .isolated | .night => s.runReached
  | .loading | .configFault | .silent => false

/-- R185, R187: ISOLATED is decided. -/
def State.isolatedDecided (s : State) : Bool :=
  match s.sc.state with
  | .operating | .night => !s.silentDecided && s.isoReached
  | .loading | .configFault | .syncing | .isolated | .silent => false

/-- R185, R189: NIGHT is decided. -/
def State.nightDecided (s : State) : Bool :=
  s.sc.state == .operating && !s.silentDecided && !s.isoReached && s.rs.nightCount == 8

/-- R185, R186, R188: the results that move the station to none of SILENT, ISOLATED and NIGHT by these tests. The syncing
phase, meaningful in SYNCING alone, is put back to WAIT on entering OPERATING, and stands as it was on entering SILENT:
the model's choice (log entry 54). -/
def State.otherwiseDecided (s : State) : State :=
  match s.sc.state with
  | .syncing =>
    if s.sc.listen then ({ s with sc := { s.sc with listen := false } } : State).toState .operating
    else { s with sc := { s.sc with listen := true } }
  | .operating | .night => s.storeIsoCount
  | .isolated => if s.bi.heardEpoch then s.leaveIsolated else s
  | .loading | .configFault | .silent => s

/-- R185: the tests of an epoch start, in the row of the state that stands; after a dawn that the tick of this epoch start
has passed, that is OPERATING (log entry 56). -/
def State.stationTests (s : State) : State :=
  if s.silentDecided then s.becomeSilent
  else if s.isolatedDecided then s.becomeIsolated
  else if s.nightDecided then s.storeIsoCount.becomeNight
  else s.otherwiseDecided

/-! ## Meanings: each entry where its test decides it (log entry 1) -/

def execEnterSilent (s : State) : Host.Outcome State Fault Refusal :=
  .next (s.ifRunning fun s => if s.silentDecided then s.change State.becomeSilent else s)

def execEnterIsolated (s : State) : Host.Outcome State Fault Refusal :=
  .next (s.ifRunning fun s => if s.isolatedDecided then s.change State.becomeIsolated else s)

def execEnterNight (s : State) : Host.Outcome State Fault Refusal :=
  .next (s.ifRunning fun s =>
    if s.nightDecided then s.change fun s => s.storeIsoCount.becomeNight else s)

end Sys2Proof.Machine
end

