-- ==== Sys2Proof/Machine/Timing.lean ====
section
/-! DEFINITION. The epoch timer and what its instants hand to the blocks (R87 to R89, R93, R98, R99, R112, R117, R120,
R150, R151): own wraps, time marks, the mark window, slot starts, and the meanings of their rows. -/

namespace Sys2Proof.Machine

/-! ## Slots -/

/-- R93: the quiet-slot count after a slot start, which sets BUS-LOST at 400. -/
def State.busLostTest (s : State) : State :=
  if 400 ≤ s.bi.quietSlots then { s with bi := { s.bi with busLost := true } } else s

/-- R93: a slot start counts. -/
def State.countSlot (s : State) : State :=
  ({ s with bi := { s.bi with quietSlots := min (s.bi.quietSlots + 1) 400 } } : State).busLostTest

/-- R98: an echo mismatch that the slot-match mark does not exempt. -/
def State.collisionCounts (s : State) : Bool := s.bi.mismatch && !s.dcu.slotMatch

/-- R98: the end of the own slot settles its mismatch. -/
def State.settleOwnSlot (s : State) : State :=
  if s.bi.inOwnSlot then
    let c := s.bi.counters
    { s with bi := { s.bi with
        inOwnSlot := false
        mismatch := false
        collisionMark := s.bi.collisionMark || s.collisionCounts
        counters := if s.collisionCounts then { c with collisions := bump c.collisions } else c } }
  else s

/-- R136: the own slot starts, with the slot-match mark as the detectors then stand. -/
def State.openOwnSlot (s : State) : State :=
  { s with
    bi := { s.bi with inOwnSlot := true }
    dcu := { s.dcu with slotMatch := s.dcu.patternHeld s.cfg } }

/-- R87, R90: the timer stands at the start of a slot; a frame that begins at this instant may be recorded in the slot
that ends. -/
def BusInterface.enterSlot (bi : BusInterface) (slot : Nat) : BusInterface :=
  { bi with
    timer := 5000 * slot
    epochNow := false
    slotBefore := if bi.timer / 5000 = slot then bi.slotBefore else some { number := bi.timer / 5000, past := none } }

/-- R87, R93, R98, R136: the start of slot 1 to 399. -/
def State.startSlot (s : State) (slot : Nat) : State :=
  let t := ({ s with bi := s.bi.enterSlot slot } : State).settleOwnSlot
  if t.running then
    let u := t.change State.countSlot
    if slot = u.sc.number then u.openOwnSlot else u
  else t

/-! ## Epoch starts -/

/-- R99: the collision run after the epoch that ends. -/
def BusInterface.settleRun (bi : BusInterface) : BusInterface :=
  { bi with
    collisionRun := if bi.collisionMark then min (bi.collisionRun + 1) 3 else 0
    collisionMark := false }

/-- R94: the two heard flags cleared for the new epoch. -/
def BusInterface.clearHeard (bi : BusInterface) : BusInterface :=
  { bi with heardEpoch := false, heardOwnSlot := false }

/-- R112: the ages of the sun records are tested. -/
def State.expireSuns (s : State) : State :=
  { s with rs := { s.rs with sun := mapEach (fun _ r => expireSun s.bi.epoch s.cfg.sunHorizon r) s.rs.sun } }

/-- R87, R93, R94, R99, R112, R117, R120, R150, R151: what an epoch start hands to the blocks before the Station
Controller's tests, each block in its turn. -/
def State.handEpoch (s : State) : State :=
  let t := s.change State.countSlot
  let u := { t with bi := t.bi.settleRun }
  let v := (u.expireSuns.change State.rxStaleTest).nightEvaluation
  { v with pt := v.pt.atEpoch v.cfg.peerAgeMax v.bi.epoch }

/-- R185, R94: the Station Controller's tests, of the row of the state as they find it (after a dawn passed at this epoch
start, OPERATING's: log entry 56), after which the heard flags are cleared. -/
def State.testEpoch (s : State) : State :=
  let t := s.change State.stationTests
  { t with bi := t.bi.clearHeard }

/-- R19, R116: the tick of an epoch start falls due, with what the epoch start's sun evaluation found. -/
def State.leaveTickDue (s : State) : State := { s with acu := { s.acu with due := some (s.evalSun 0) } }

/-- R19, R20: the tick of an epoch start before the tests, or left due to be taken after them. -/
def State.epochStartTick (s : State) (tickFirst : Bool) : State :=
  if tickFirst then s.leaveTickDue.startTick 0 8 else s.leaveTickDue

/-- R19: the tick timer restarts with the epoch, so ticks are scheduled from now on. -/
def State.scheduleTicks (s : State) : State := { s with acu := { s.acu with scheduled := true } }

/-- R87: an epoch start is made, before whose tick a tick in progress takes its remaining turns (R21); in LOADING and
CONFIG-FAULT no block acts on it but the tick timer (R19, R181, R183). Where the tick comes before the tests and passes the
dawn (R118, R190), the tests are OPERATING's, the state they find: R185 does not say whose they are, and this is the
model's choice (log entry 56). -/
def State.makeEpochStart (s : State) (tickFirst : Bool) : State :=
  let t := s.scheduleTicks
  if t.running then (t.finishTick.handEpoch.epochStartTick tickFirst).testEpoch else t

/-- R90: a frame in reception goes on into a new epoch, and keeps whether the station had begun its own frame in the one
that ends. -/
def Receiver.intoNextEpoch (rx : Receiver) (begun : Bool) : Receiver :=
  if rx.inFrame then { rx with slot := { rx.slot with past := some (rx.slot.past.getD begun) } } else rx

/-- R87: the timer returns to 0 in a new epoch, in which the station has built and begun no frame. -/
def BusInterface.newEpoch (bi : BusInterface) : BusInterface :=
  { bi with
    timer := 0
    epoch := bi.epoch + 1
    epochNow := true
    slotBefore := some { number := bi.timer / 5000, past := some bi.tx.begunNow }
    rx := bi.rx.intoNextEpoch bi.tx.begunNow
    tx := { bi.tx with builtNow := false, begunNow := false } }

/-- R87: the epoch timer wraps on its own, which opens the mark window. -/
def State.wrap (s : State) (tickFirst : Bool) : State :=
  let t := s.settleOwnSlot
  ({ t with bi := { t.bi.newEpoch with markWindow := true } } : State).makeEpochStart tickFirst

/-! ## Time marks -/

/-- R89: a mark was taken: none missed, MARK-LOST clear. -/
def BusInterface.marked (bi : BusInterface) : BusInterface := { bi with missedMarks := 0, markLost := false, markWindow := false }

/-- R88: a mark in the window only realigns the timer. -/
def State.realign (s : State) : State := { s with bi := { s.bi with timer := 0 } }

/-- R88: with the timer at 0 before its own wrap or slot start of this instant is taken, that wrap or slot start no longer
comes. -/
def TimerInstant.cutDue : TimerInstant → TimerInstant
  | .due | .cut => .cut
  | .plain => .plain

/-- R88, R98, R100: a mark outside the window cuts the epoch short and starts another; the timer then stands at 0 and makes
neither the own wrap nor the slot start that was due at this instant. -/
def State.markEpoch (s : State) (tickFirst : Bool) : State :=
  let t := s.cutFrame.settleOwnSlot
  let u := { t with bi := { t.bi.newEpoch with timerInstant := t.bi.timerInstant.cutDue } }
  (u.count fun c => { c with resyncs := bump c.resyncs }).makeEpochStart tickFirst

/-- R88, R89: a time mark. -/
def State.timeMark (s : State) (tickFirst : Bool) : State :=
  let t := s.change fun s => { s with bi := s.bi.marked }
  if s.bi.markWindow then t.realign else t.markEpoch tickFirst

/-- R89: MARK-LOST is set when four marks in a row are missed. -/
def State.markLostTest (s : State) : State :=
  if 4 ≤ s.bi.missedMarks then { s with bi := { s.bi with markLost := true } } else s

/-- R89: the mark window closes with no mark. -/
def State.closeWindow (s : State) : State :=
  if s.bi.markWindow then
    ({ s with bi := { s.bi with markWindow := false, missedMarks := min (s.bi.missedMarks + 1) 4 } } : State).change
      State.markLostTest
  else s

/-- R192: while a reset is in force no input is read and no block acts. -/
def State.unlessReset (s : State) (f : State → State) : State := if s.inReset then s else f s

/-- R87, R88: an own wrap or a slot start of the timer, which does not come where a RESTART or a time mark of this instant
has put the timer to 0 first. -/
def State.unlessCut (s : State) (f : State → State) : State := if s.bi.timerInstant = .cut then s else s.unlessReset f

/-! ## Meanings -/

def execEpochStart (tickFirst : Bool) (s : State) : Host.Outcome State Fault Refusal :=
  .next (s.unlessCut fun s => s.wrap tickFirst)

def execTimeMark (tickFirst : Bool) (s : State) : Host.Outcome State Fault Refusal :=
  .next (s.unlessReset fun s => s.timeMark tickFirst)

def execMarkWindowClose (s : State) : Host.Outcome State Fault Refusal :=
  .next (s.unlessReset State.closeWindow)

/-- R89 (log entry 1). -/
def execMarkLost (s : State) : Host.Outcome State Fault Refusal :=
  .next (s.unlessReset fun s => s.change State.markLostTest)

/-- A slot that no slot change begins changes nothing (log entry 15). -/
def execSlotStart (slot : Nat) (s : State) : Host.Outcome State Fault Refusal :=
  .next (s.unlessCut fun s => if 1 ≤ slot ∧ slot ≤ 399 then s.startSlot slot else s)

/-- R93 (log entry 1). -/
def execBusLost (s : State) : Host.Outcome State Fault Refusal :=
  .next (s.ifRunning fun s => s.change State.busLostTest)

/-- R112 (log entry 1). -/
def execSunRecordExpiry (slot : Fin 8) (s : State) : Host.Outcome State Fault Refusal :=
  .next (s.ifRunning fun s =>
    { s with rs := { s.rs with sun := s.rs.sun.set slot (expireSun s.bi.epoch s.cfg.sunHorizon s.rs.sun[slot]) } })

/-- R120, R121 (log entry 1). -/
def execRxStale (s : State) : Host.Outcome State Fault Refusal :=
  .next (s.ifRunning fun s => s.change State.rxStaleTest)

/-- R150 (log entry 1). -/
def execPeerAgeOut (set : Fin 32) (way1 : Bool) (s : State) : Host.Outcome State Fault Refusal :=
  .next (s.ifRunning fun s => s.setPeerSet set (s.pt.sets[set].expireWay s.cfg.peerAgeMax way1))

/-- R151 (log entry 1). -/
def execResidueExpiry (zone : Fin 32) (s : State) : Host.Outcome State Fault Refusal :=
  .next (s.ifRunning fun s =>
    { s with pt := { s.pt with
        residue := s.pt.residue.map fun r => if r.zone = zone.val then r.expire s.bi.epoch else r } })

end Sys2Proof.Machine
end

