-- ==== Sys2Proof/Machine/Dispatch.lean ====
section
/-! DEFINITION. Which meaning each command has. -/

namespace Sys2Proof.Machine

/-- The effect of a command on everything but the queue of waiting commands. -/
def exec (i : Instr) (s : State) : Host.Outcome State Fault Refusal :=
  match i with
  | .stowField hf => Sys2Proof.Machine.execStowField hf s
  | .stowRelease hf => Sys2Proof.Machine.execStowRelease hf s
  | .standbySet hf => Sys2Proof.Machine.execStandbySet hf s
  | .standbyClear hf => Sys2Proof.Machine.execStandbyClear hf s
  | .hold hf azSteps elSteps => Sys2Proof.Machine.execHold hf azSteps elSteps s
  | .holdRelease hf => Sys2Proof.Machine.execHoldRelease hf s
  | .serviceOut hf => Sys2Proof.Machine.execServiceOut hf s
  | .serviceIn hf => Sys2Proof.Machine.execServiceIn hf s
  | .correct hf dAz dEl => Sys2Proof.Machine.execCorrect hf dAz dEl s
  | .rehome hf => Sys2Proof.Machine.execRehome hf s
  | .defocusRelease hf => Sys2Proof.Machine.execDefocusRelease hf s
  | .clearAlerts hf => Sys2Proof.Machine.execClearAlerts hf s
  | .clearSticky hf => Sys2Proof.Machine.execClearSticky hf s
  | .report hf => Sys2Proof.Machine.execReport hf s
  | .restart hf => Sys2Proof.Machine.execRestart hf s
  | .reservedCommand kind hf => Sys2Proof.Machine.execReservedCommand kind hf s
  | .sunFrame slot s0 r => Sys2Proof.Machine.execSunFrame slot s0 r s
  | .receiverFrame slot state zones => Sys2Proof.Machine.execReceiverFrame slot state zones s
  | .contributionFrame sender state items => Sys2Proof.Machine.execContributionFrame sender state items s
  | .ownNumberFrame => Sys2Proof.Machine.execOwnNumberFrame s
  | .frameDropped raw => Sys2Proof.Machine.execFrameDropped raw s
  | .epochStart tickFirst => Sys2Proof.Machine.execEpochStart tickFirst s
  | .timeMark tickFirst => Sys2Proof.Machine.execTimeMark tickFirst s
  | .markWindowClose => Sys2Proof.Machine.execMarkWindowClose s
  | .markLost => Sys2Proof.Machine.execMarkLost s
  | .slotStart slot => Sys2Proof.Machine.execSlotStart slot s
  | .busLost => Sys2Proof.Machine.execBusLost s
  | .build => Sys2Proof.Machine.execBuild s
  | .frameBegin => Sys2Proof.Machine.execFrameBegin s
  | .transmitCompletion => Sys2Proof.Machine.execTransmitCompletion s
  | .echoMismatch => Sys2Proof.Machine.execEchoMismatch s
  | .enterSilent => Sys2Proof.Machine.execEnterSilent s
  | .enterIsolated => Sys2Proof.Machine.execEnterIsolated s
  | .enterNight => Sys2Proof.Machine.execEnterNight s
  | .sunRecordExpiry slot => Sys2Proof.Machine.execSunRecordExpiry slot s
  | .rxStale => Sys2Proof.Machine.execRxStale s
  | .peerAgeOut p way1 => Sys2Proof.Machine.execPeerAgeOut p way1 s
  | .residueExpiry zone => Sys2Proof.Machine.execResidueExpiry zone s
  | .aimTick offset stop => Sys2Proof.Machine.execAimTick offset stop s
  | .axisStep h a => Sys2Proof.Machine.execAxisStep h a s
  | .indexEdge h a level => Sys2Proof.Machine.execIndexEdge h a level s
  | .homefail h a => Sys2Proof.Machine.execHomefail h a s
  | .driveFault h level => Sys2Proof.Machine.execDriveFault h level s
  | .stowInputChange level => Sys2Proof.Machine.execStowInputChange level s
  | .tripEdge level => Sys2Proof.Machine.execTripEdge level s
  | .generationEnd => Sys2Proof.Machine.execGenerationEnd s
  | .activateDetection bit => Sys2Proof.Machine.execActivateDetection bit s
  | .releaseDetection bit => Sys2Proof.Machine.execReleaseDetection bit s
  | .dniPulse => Sys2Proof.Machine.execDniPulse s
  | .windowEnd => Sys2Proof.Machine.execWindowEnd s
  | .powerOnReset input => Sys2Proof.Machine.execPowerOnReset input s
  | .resetn input => Sys2Proof.Machine.execResetn input s
  | .loadEnd straps image => Sys2Proof.Machine.execLoadEnd straps image s
  | .commandFrame slot entries => Sys2Proof.Machine.execCommandFrame slot entries s
  | .detectorLock bit => Sys2Proof.Machine.execDetectorLock bit s

end Sys2Proof.Machine
end

