-- ==== Sys2Proof/Machine/Tick.lean ====
section
/-! DEFINITION. One microsecond in which no command waits (log entry 2): the clocks of the block advance, the line is
sampled, and the events that fall due join the queue, events of one instant in a free order (log entry 8). -/

namespace Sys2Proof.Machine

/-! ## The line (R86, R97, R127, R134) -/

/-- R86: the bits of a frame on the line: each byte with its start bit, its bits from the least significant,
and its stop bit. -/
def characterBit (b : Byte) (i : Nat) : Bool :=
  if i = 0 then false else if 9 ≤ i then true else b.getLsbD (i - 1)

/-- R86, R96: the bit of the own frame on the line at a microsecond since its first. -/
def frameBit (bytes : List Byte) (micros : Nat) : Bool :=
  match bytes[micros / 20]? with
  | none => true
  | some b => characterBit b (micros % 20 / 2)

/-- R134: the bit of the code being generated. -/
def State.codeBit (s : State) : Bool :=
  match s.cfg.activate[(s.cfg.genMs * 500 - s.dcu.genCount) % s.cfg.activate.length]? with
  | none => true
  | some b => b

/-- R86: what this station drives onto the line, if anything. -/
def State.drive (s : State) : Option Bool :=
  if s.dcu.generating then some s.codeBit
  else if s.bi.tx.phase = .sending then some (frameBit s.bi.tx.bytes s.bi.tx.micros)
  else none

/-- R127: the cells are realigned at each change of the level. -/
def Line.next (l : Line) (level : Bool) : Line :=
  { level := level, cell := if level != l.level then 0 else (l.cell + 1) % 2 }

/-- R127: this microsecond holds the middle of a bit cell. -/
def Line.sampled (l : Line) : Bool := l.cell == 1

/-! ## The receiver (R90) -/

/-- R90: the slot recorded where the line changes from 1 to 0: at the instant of a slot start, either slot (log entry 8). -/
def State.beganIn (s : State) : FrameSlot :=
  let shown : FrameSlot := { number := s.bi.timer / 5000, past := none }
  if Config.tieRank s.draws 0 % 2 = 1 then s.bi.slotBefore.getD shown else shown

/-- R90: a change from 1 to 0 begins a character, and between frames it begins a frame, the station's own where the
station is sending. -/
def Receiver.fall (rx : Receiver) (slot : FrameSlot) (sending : Bool) : Receiver :=
  if rx.char.isSome then rx
  else if rx.inFrame then { rx with char := some [], idle := 0 }
  else { Receiver.clear with inFrame := true, own := sending, slot := slot, char := some [] }

/-- R90: a character of ten bits is complete. -/
def Receiver.addCharacter (rx : Receiver) (bits : List Bool) : Receiver :=
  let b : Byte := (BitVec.ofBoolListLE ((bits.drop 1).take 8)).setWidth 8
  { rx with
    char := none
    idle := 0
    count := rx.count + 1
    bytes := if rx.bytes.length < 192 then rx.bytes ++ [b] else rx.bytes
    stopsOk := rx.stopsOk && bits.getLast? == some true }

/-- R90: a bit read in a frame. -/
def Receiver.addBit (rx : Receiver) (bit : Bool) : Receiver :=
  match rx.char with
  | some bits =>
    if bits.length < 9 then { rx with char := some (bits ++ [bit]) } else rx.addCharacter (bits ++ [bit])
  | none => if rx.inFrame then { rx with idle := if bit then rx.idle + 1 else 0 } else rx

/-- R90: the frame ends after 40 µs of idle, twenty bits. -/
def Receiver.ended (rx : Receiver) : Bool := rx.inFrame && rx.char.isNone && 20 ≤ rx.idle

/-- The frame a receiver holds. -/
def Receiver.raw (rx : Receiver) : RawFrame :=
  { slot := rx.slot.number, past := rx.slot.past, stopsOk := rx.stopsOk, count := rx.count, bytes := rx.bytes }

/-- R90, R135: the receiver through a microsecond; it does not receive while the code is generated or it is held. It
reads its characters in the cells of R127, which each change of the level realigns (log entry 43). -/
def State.receive (s : State) (level : Bool) : Receiver :=
  if s.dcu.generating || s.bi.rx.held then s.bi.rx
  else
    let rx := if s.bi.line.level && !level then s.bi.rx.fall s.beganIn (s.bi.tx.phase == .sending) else s.bi.rx
    if (s.bi.line.next level).sampled then rx.addBit level else rx

/-! ## Clocks -/

/-- R44: the counter of a running generator; its step falls due where it would reach 0. -/
def Axis.advance (a : Axis) : Axis :=
  if a.period != 0 && 1 < a.counter then { a with counter := a.counter - 1 } else a

/-- R87: the timer within the epoch; the wrap itself falls due after 1,999,999. -/
def nextTimer (timer : Nat) : Nat := if timer < 1999999 then timer + 1 else timer

/-- R157: the window timer; the window's end falls due after 249,999. -/
def IrradianceMonitor.advance (irm : IrradianceMonitor) : IrradianceMonitor :=
  if irm.running && irm.timer < 249999 then { irm with timer := irm.timer + 1 } else irm

/-- R134: the bit being sent; at the end of each the generator count decreases. -/
def DefocusUnit.advance (d : DefocusUnit) : DefocusUnit :=
  if d.generating then
    if d.genMicros = 0 then { d with genMicros := 1 } else { d with genMicros := 0, genCount := d.genCount - 1 }
  else d

/-- R87, R90: the slot that ends where the timer, advanced, shows another. -/
def BusInterface.endedSlot (bi : BusInterface) : Option FrameSlot :=
  if nextTimer bi.timer / 5000 = bi.timer / 5000 then none else some { number := bi.timer / 5000, past := none }

/-- R87: what the timer, advanced, makes at its instant: its own wrap, a slot start, or neither. -/
def BusInterface.nextInstant (bi : BusInterface) : TimerInstant :=
  if 1999999 ≤ bi.timer ∨ (bi.timer + 1) % 5000 = 0 then .due else .plain

/-- R96: how long the own frame has been on the line. -/
def Transmitter.advance (tx : Transmitter) : Transmitter :=
  if tx.phase = .sending then { tx with micros := tx.micros + 1 } else tx

/-- R21: how long a tick has been in progress. -/
def AimUnit.advance (acu : AimUnit) : AimUnit :=
  match acu.tick with
  | none => acu
  | some t => { acu with tick := some { t with micros := t.micros + 1 } }

/-- Every clock one microsecond on, with a line level. -/
def State.advance (s : State) (level : Bool) : State :=
  let rx := s.receive level
  { s with
    draws := s.draws + 1
    helios := mapEach (fun _ h => { h with az := h.az.advance, el := h.el.advance }) s.helios
    irm := s.irm.advance
    dcu := s.dcu.advance
    acu := s.acu.advance
    bi := { s.bi with
      timer := nextTimer s.bi.timer
      line := s.bi.line.next level
      tx := s.bi.tx.advance
      rx := if rx.ended then Receiver.clear else rx
      slotBefore := s.bi.endedSlot
      timerInstant := s.bi.nextInstant
      epochNow := false } }

/-! ## Events that fall due -/

/-- An event alone, where it is due. -/
def dueIf (c : Bool) (i : Instr) : List Instr := if c then [i] else []

/-- R21: the turn at which a tick now pauses; the free number ends by 2 ms (log entry 9). -/
def State.turnStop (s : State) (t : TickProgress) : Nat :=
  if 1990 ≤ t.micros then 8 else min 8 (t.turn + Config.turnsTaken s.draws % 9)

/-- R21: the turn before which a tick that now begins first pauses. R21 bounds only the end of the turns, so turn 0 too may
come later than the tick's own instant: where the free number is 0, the sun is evaluated and no turn is taken yet (log
entry 9). -/
def State.firstStop (s : State) : Nat := Config.turnsTaken s.draws % 9

/-- R87: the epoch timer's own wrap, with the tick of that instant (log entry 10). -/
def State.wrapDue (s : State) : List Instr :=
  if 1999999 ≤ s.bi.timer then
    if Config.tickBeforeTests s.draws then [.epochStart true] else [.epochStart false, .aimTick 0 s.firstStop]
  else []

/-- R87, R95: a slot start, with the build where the slot is the own slot. -/
def State.slotDue (s : State) : List Instr :=
  if s.bi.timer < 1999999 ∧ (s.bi.timer + 1) % 5000 = 0 then
    .slotStart ((s.bi.timer + 1) / 5000) :: dueIf (s.running && (s.bi.timer + 1) / 5000 == s.sc.number) .build
  else []

/-- R89: the mark window closes 1 ms after the wrap. -/
def State.windowDue (s : State) : List Instr := dueIf (s.bi.markWindow && s.bi.timer == 999) .markWindowClose

/-- R19, R116: the tick of a mark's epoch start, where it is still due: it belongs to the instant before, so that it comes
before every event of this one (log entry 10). -/
def State.markTickDue (s : State) : List Instr := dueIf (s.acu.tick.isNone && s.acu.due.isSome) (.aimTick 0 s.firstStop)

/-- R19, R21: the tick of this instant, or the further turns of a tick in progress. -/
def State.tickDue (s : State) : List Instr :=
  match s.acu.tick with
  | some t => dueIf (t.turn < s.turnStop t) (.aimTick 0 (s.turnStop t))
  | none =>
    dueIf (s.acu.due.isNone && s.running && s.acu.scheduled && s.bi.timer < 1999999 && (s.bi.timer + 1) % 1000 == 0 &&
      s.cfg.tickAt ((s.bi.timer + 1) / 1000)) (.aimTick ((s.bi.timer + 1) / 1000) s.firstStop)

/-- R44: the axis steps of this instant, each an event of its own. -/
def State.stepsDue (s : State) : List (List Instr) :=
  (List.finRange 8).flatMap fun i =>
    [dueIf s.helios[i].az.stepDue (.axisStep i .az), dueIf s.helios[i].el.stepDue (.axisStep i .el)]

/-- R95: the own frame begins 100 µs after the own slot. -/
def State.beginDue (s : State) : List Instr :=
  dueIf (s.bi.tx.phase == .built && s.bi.timer + 1 == 5000 * s.sc.number + 100) .frameBegin

/-- R96, R97: an echo mismatch at the middle of a bit, before the completion at the end of the last. -/
def State.transmitDue (s : State) (level : Bool) : List Instr :=
  if s.bi.tx.phase = .sending then
    dueIf (s.bi.tx.micros % 2 == 1 && s.drive != some level) .echoMismatch ++
      dueIf (20 * s.bi.tx.bytes.length ≤ s.bi.tx.micros + 1) .transmitCompletion
  else []

/-- R134: the generator count reaches 0. -/
def State.generationDue (s : State) : List Instr :=
  dueIf (s.dcu.generating && s.dcu.genMicros == 1 && s.dcu.genCount ≤ 1) .generationEnd

/-- R157: the irradiance window ends. -/
def State.irradianceDue (s : State) : List Instr := dueIf s.irm.windowOver .windowEnd

/-- R127, R131: the bit received, by the row it brings about; two detections on one bit in a free order (log entry 8). -/
def State.bitDue (s : State) (level : Bool) : List Instr :=
  if (s.bi.line.next level).sampled && s.listening then
    if s.activateDetected level && s.releaseDetected level then
      if Config.tieRank s.draws 1 % 2 = 0 then [.activateDetection level] else [.releaseDetection level]
    else if s.activateDetected level then [.activateDetection level]
    else if s.releaseDetected level then [.releaseDetection level]
    else [.detectorLock level]
  else []

/-- R91, R92: the row of a frame that ends. -/
def State.frameEvent (s : State) (raw : RawFrame) : Instr :=
  match judge raw with
  | .dropped _ => .frameDropped raw
  | .valid (.sun s0 r) => .sunFrame ⟨raw.slot % 8, Nat.mod_lt _ (by decide)⟩ s0 r
  | .valid (.receiver st zones) => .receiverFrame ⟨raw.slot % 8, Nat.mod_lt _ (by decide)⟩ st zones
  | .valid (.command entries) => .commandFrame ⟨raw.slot % 8, Nat.mod_lt _ (by decide)⟩ entries
  | .valid (.contribution st items) =>
    if raw.slot = s.sc.number then .ownNumberFrame else .contributionFrame raw.slot st items

/-- R90: the frame that ends in this microsecond, if any; one that is exempt is not checked. -/
def State.frameDue (s : State) (level : Bool) : List Instr :=
  let rx := s.receive level
  dueIf (rx.ended && !s.exempt rx.slot.number rx.slot.past) (s.frameEvent rx.raw)

/-- The events that fall due, in groups that keep their order. -/
def State.dueGroups (s : State) (level : Bool) : List (List Instr) :=
  [s.wrapDue, s.slotDue, s.windowDue, s.tickDue, s.beginDue, s.transmitDue level, s.generationDue,
    s.irradianceDue, s.bitDue level, s.frameDue level] ++ s.stepsDue

/-- A group placed by its rank. -/
def placeGroup (rank : Nat → Nat) (g : Nat × List Instr) : List (Nat × List Instr) → List (Nat × List Instr)
  | [] => [g]
  | h :: rest => if rank g.1 ≤ rank h.1 then g :: h :: rest else h :: placeGroup rank g rest

/-- The events of one instant in the order their free ranks give. -/
def orderGroups (rank : Nat → Nat) (groups : List (List Instr)) : List Instr :=
  ((groups.zipIdx.map fun g => (g.2 + 2, g.1)).foldr (placeGroup rank) []).flatMap fun g => g.2

/-- One microsecond. While a power-on reset or RESETn is in force nothing runs (R192): R109 has the timer run freely from 0
after a reset, R192 does not say whether it runs during one, and the model holds it, with every other clock, until the
reset ends (log entry 55). -/
def State.tick (s : State) : State :=
  if s.inReset then s
  else
    let level := Config.lineLevel s.draws s.drive
    { s.advance level with pending := s.markTickDue ++ orderGroups (Config.tieRank s.draws) (s.dueGroups level) }

end Sys2Proof.Machine
end

