-- ==== Sys2Proof/Safety.lean ====
section
/-! DEFINITION. The vocabulary of the statements: how a command is answered and seen by the Alert Unit, and the
invariants of the block: engaged levels, placements, published flux, fresh records, register ranges. -/

namespace Sys2Proof.Machine

/-! ## Answers and latches -/

/-- R103, R104: from one state to another the Bus Interface changes by one answer alone. -/
def Answered (s t : State) (kind hf : Byte) (r : Result) : Prop :=
  t.bi = { s.bi with
    outcomes := (if s.bi.outcomes.length < 4 then s.bi.outcomes else s.bi.outcomes.drop 1) ++ [⟨kind, hf, r, false⟩]
    outcomesLost := s.bi.outcomesLost || decide (4 ≤ s.bi.outcomes.length)
    lostSinceBuild := s.bi.lostSinceBuild || decide (4 ≤ s.bi.outcomes.length)
    counters := { s.bi.counters with
      refused := if r = .done then s.bi.counters.refused else min (s.bi.counters.refused + 1) 65535 } }

/-- A refused entry changes nothing beside its answer. -/
def Refused (s t : State) (kind hf : Byte) (r : Result) : Prop :=
  Answered s t kind hf r ∧ t = { s with bi := t.bi }

/-- R197: from one state to another the Alert Unit sees one change of the conditions. -/
def Latched (s t : State) : Prop := t.au = s.au.latch s.conditions t.conditions

/-- R197: from one state to another the Alert Unit sees two changes of the conditions, the first as far as a state between. -/
def LatchedThrough (s between t : State) : Prop :=
  t.au = (s.au.latch s.conditions between.conditions).latch between.conditions t.conditions

/-- R101, R197: one change of the conditions, around a cut own frame whose carried marks are gone. -/
def LatchedAfterCut (s t : State) : Prop :=
  t.au = ({ s.au with carried := if t.bi.tx.phase = s.bi.tx.phase then s.au.carried else 0 } : AlertUnit).latch
    s.conditions t.conditions

/-- R97, R100, R101: the Bus Interface after its own frame, built or begun, has ended otherwise than by completion: the
buffer emptied, the marks removed from what the frame carried, and of a frame that had begun an abort counted and the
reception of the own bytes given up (R90). -/
def cutBus (bi : BusInterface) : BusInterface :=
  { bi with
    outcomes := bi.outcomes.map fun o => { o with carried := false }
    reportCarried := false
    tx := { bi.tx with phase := .empty, bytes := [], micros := 0, counters := none }
    counters := if bi.tx.phase = .sending then { bi.counters with aborts := min (bi.counters.aborts + 1) 65535 }
      else bi.counters
    rx := if bi.tx.phase = .sending ∧ bi.rx.own = true then { bi.rx with char := none, idle := 0 } else bi.rx }

/-- R68, R100, R101, R197: a change of the station's sources that first cuts the own frame, where `cuts` holds and there is
one: the Bus Interface, the carried list and the carried marks with it, every deferred placement emptied (placement P
to 0: log entry 49); then the engaged levels are recomputed, and the Alert Unit sees one change. -/
def RecomputedAfterCut (s t : State) (cuts : Bool) : Prop :=
  let cut := cuts && decide (s.bi.tx.phase ≠ .empty)
  t.bi = (if cut then cutBus s.bi else s.bi) ∧ t.fa = (if cut then { s.fa with carried := [] } else s.fa) ∧
  t.au = (if cut then { s.au with carried := 0 } else s.au).latch s.conditions t.conditions ∧
  ∀ i : Fin 8, t.helios[i] =
    (if cut then { s.helios[i] with deferred := none, placementP := 0 } else s.helios[i]).reengage t.src true

/-- R68: the engaged level of every heliostat is recomputed from the new sources, with the actions of the change (what
they are: the statement LevelChange), placement P 0 on leaving TRACK (log entry 49) and a snapshot from the positions (log
entry 53) among them; nothing else of it changes. -/
def Recomputed (s t : State) : Prop := ∀ i : Fin 8, t.helios[i] = s.helios[i].reengage t.src true

/-- Every heliostat but one is as it was. -/
def OthersKept (s t : State) (i : Fin 8) : Prop := ∀ j : Fin 8, j ≠ i → t.helios[j] = s.helios[j]

/-- A heliostat beside its level, targets, placement and LIMIT (R68 to R72): all that a change of level leaves. -/
def LevelFrame (h h' : Helio) : Prop :=
  h' = { h with
    engaged := h'.engaged, snapshot := h'.snapshot, az := h'.az, el := h'.el, limit := h'.limit
    assignment := h'.assignment, deferred := h'.deferred, placementP := h'.placementP }

/-- R93, R94: the Bus Interface after a valid frame of another sender is heard. -/
def heardBus (bi : BusInterface) : BusInterface := { bi with quietSlots := 0, busLost := false, heardEpoch := true }

/-- R6, R59, R61: a heliostat without a placement: none assigned, none deferred, and placement P 0 (log entry 49). -/
def unplaced (h : Helio) : Helio := { h with assignment := none, deferred := none, placementP := 0 }

/-- R14: a heliostat that SERVICE-OUT has taken; placement P is 0 by log entry 49. -/
def outOfService (h : Helio) : Helio :=
  { unplaced h with
    inService := false, homed := false, homing := none, engaged := .none, az := h.az.halt, el := h.el.halt
    snapshot := if h.engaged = .defocus then none else h.snapshot }

/-- R54, R55: a heliostat whose homing has just started from NONE, its elevation axis in its first phase. -/
def homingBegun (h : Helio) : Helio :=
  { h with homed := false, homing := some .el, az := { h.az.stopNow with drive := .rest }, el := h.el.stopNow.beginHoming }

/-- R62, R69: a heliostat that REHOME has taken: no fault, engaged at NONE, its homing begun; placement P is 0
by log entry 49 where it leaves TRACK. -/
def rehomed (h : Helio) : Helio :=
  { homingBegun (if h.engaged = .track then unplaced h else h) with
    fault := .none, engaged := .none, snapshot := if h.engaged = .defocus then none else h.snapshot }

/-- R59: a heliostat whose first fault is recorded, engaged at NONE; placement P is 0 by log entry 49. -/
def faulted (h : Helio) (k : HelioFault) : Helio :=
  { (if h.engaged = .track then unplaced h else h) with
    fault := k, homed := false, deferred := none, placementP := 0, homing := none, engaged := .none
    snapshot := if h.engaged = .defocus then none else h.snapshot
    az := h.az.halt, el := h.el.halt }

/-- R13: what a recomputation of the interest set leaves of the zones that depart and gives to those that are added:
residue records for the zones of the set alone, kept or at 0; no want flag and no peer item of a departed zone, an entry
whose items all departed invalid, its set's LRU bit unchanged; and the published value O_z of every zone as it was. -/
def InterestFollowed (s t : State) : Prop :=
  t.pt.residue.map Residue.zone = t.interest ∧
  (∀ r ∈ t.pt.residue, match s.pt.residue.find? fun x => x.zone == r.zone with
    | some old => r = old
    | none => r.value = 0) ∧
  (∀ (i : Fin 32) (way1 : Bool), t.pt.sets[i].lru = s.pt.sets[i].lru ∧
    t.pt.sets[i].way way1 = match s.pt.sets[i].way way1 with
      | none => none
      | some e =>
        let kept := e.items.filter fun x => t.interest.contains x.zone
        if kept = [] then none else some { e with items := kept }) ∧
  (∀ z, wantFor t.fa.plan z = (wantFor s.fa.plan z && t.interest.contains z) ∧
    plannedFor t.fa.plan z = plannedFor s.fa.plan z) ∧
  (∀ z ∈ t.interest, (itemFor t.fa.plan z).isSome = true) ∧
  t.fa = { s.fa with plan := t.fa.plan }

/-- R99: the epoch that ends had a counted collision, one of the own slot that ends with it included (R98). -/
def State.collidedNow (s : State) : Bool := s.bi.collisionMark || (s.bi.inOwnSlot && s.bi.mismatch && !s.dcu.slotMatch)

/-- R117: the night count after an epoch start's sun evaluation. -/
def nightAfter (count : Nat) (nightSu : Int) : Option Vec3 → Nat
  | none => 0
  | some v => if v.u < nightSu then min (count + 1) 8 else 0

/-- R93, R94, R99, R112, R116, R117, R120, R121, R150, R151, R19, R21: what an epoch start, by an own wrap or by a mark, makes of a
station that has loaded: the quiet-slot count, the collision run and the heard flags of the Bus Interface; the ages and
expiries of every record; the night count; and the tick, which is due with what the epoch start's
evaluation found (`tickFirst` false), or has been taken whole. -/
def EpochStarted (s t : State) (tickFirst : Bool) : Prop :=
  let now := s.bi.epoch + 1
  let stale := match s.rs.receiver with
    | none => false
    | some r => decide (s.cfg.rxStale < (now - r.epoch).toNat)
  t.bi.quietSlots = min (s.bi.quietSlots + 1) 400 ∧
  t.bi.busLost = (s.bi.busLost || decide (400 ≤ s.bi.quietSlots + 1)) ∧
  t.bi.collisionRun = (if s.collidedNow then min (s.bi.collisionRun + 1) 3 else 0) ∧ t.bi.collisionMark = false ∧
  t.bi.heardEpoch = false ∧ t.bi.heardOwnSlot = false ∧
  (∀ k : Fin 8, t.rs.sun[k] = match s.rs.sun[k] with
    | none => none
    | some r => if s.cfg.sunHorizon < (now - r.epoch).toNat then none else some r) ∧
  t.rs.receiver = (if stale then none else s.rs.receiver) ∧ (stale = true → t.src.standbyRx = true) ∧
  (stale = false → t.src.standbyRx = s.src.standbyRx) ∧
  (∀ (i : Fin 32) (way1 : Bool), t.pt.sets[i].lru = s.pt.sets[i].lru ∧
    t.pt.sets[i].way way1 = match s.pt.sets[i].way way1 with
      | none => none
      | some e => if s.cfg.peerAgeMax < e.age + 1 then none else some { e with age := e.age + 1 }) ∧
  (t.pt.residue = s.pt.residue.map fun r => if r.value ≠ 0 ∧ r.expiry = now then { r with value := 0 } else r) ∧
  (tickFirst = false ∨ s.sc.state ≠ .night → t.rs.nightCount = nightAfter s.rs.nightCount s.cfg.nightSu (t.evalSun 0)) ∧
  (tickFirst = false → t.acu = { tick := none, due := some (t.evalSun 0), scheduled := true }) ∧
  (tickFirst = true → s.cfg.aimPeriod ≠ 0 → t.acu = { tick := none, due := none, scheduled := true })

/-- R144, R147: a set with one way written for a station, age 0, the LRU bit naming the other way. -/
def written (st : PeerSet) (way1 : Bool) (station : Nat) (items : List PlanItem) : PeerSet :=
  { (st.setWay way1 (some { station := station, age := 0, items := items })) with lru := !way1 }

/-- R91 check 6, R202: the bytes of a frame of a kind, the four of its header and its CRC included, have the length that the
kind and its counts call for, with every count in range. -/
def contentFills (kind : Nat) (bytes : List Byte) : Bool :=
  let at_ := fun i => (bytes.getD i 0).toNat
  match kind with
  | 1 => bytes.length == 18
  | 2 => 1 ≤ at_ 5 && at_ 5 ≤ 32 && bytes.length == 8 + 4 * at_ 5
  | 3 => 1 ≤ at_ 4 && at_ 4 ≤ 8 && bytes.length == 7 + 12 * at_ 4
  | 4 =>
    let e := at_ 22
    let o := at_ (23 + 4 * e)
    let report := at_ (25 + 4 * e + 3 * o)
    e ≤ 8 && o ≤ 4 && report ≤ 2 &&
      bytes.length == 28 + 4 * e + 3 * o + (if report = 0 then 0 else if report = 1 then 47 else 20)
  | _ => false

/-- R102: an entry is addressed to station `n` or to all stations. -/
def addressedTo (n : Nat) (e : CommandEntry) : Prop := e.target.toNat = n ∨ e.target.toNat = 511

/-- R102, R204: the row of a taken entry. -/
def entryCommand (e : CommandEntry) : Instr :=
  match e.kind.toNat with
  | 1 => .stowField e.heliostat
  | 2 => .stowRelease e.heliostat
  | 3 => .standbySet e.heliostat
  | 4 => .standbyClear e.heliostat
  | 5 => .hold e.heliostat e.param1 e.param2
  | 6 => .holdRelease e.heliostat
  | 7 => .serviceOut e.heliostat
  | 8 => .serviceIn e.heliostat
  | 9 => .correct e.heliostat e.param1 e.param2
  | 10 => .rehome e.heliostat
  | 11 => .defocusRelease e.heliostat
  | 12 => .clearAlerts e.heliostat
  | 13 => .clearSticky e.heliostat
  | 14 => .report e.heliostat
  | 15 => .restart e.heliostat
  | _ => .reservedCommand e.kind e.heliostat

/-- R102: one entry of a frame at station `n`: its row where the entry is taken, nothing where it is passed over. -/
def entryStep (n : Nat) (s : State) (e : CommandEntry) : State :=
  if e.target.toNat = n ∨ e.target.toNat = 511 then
    match exec (entryCommand e) s with
    | .next t => t
    | .fault _ | .refused _ => s
  else s

/-- The rows that a frame from the bus brings: the taken entries and the frames themselves (R92, R102). -/
def fromBus : Instr → Bool
  | .stowField _ | .stowRelease _ | .standbySet _ | .standbyClear _ | .hold _ _ _ | .holdRelease _
  | .serviceOut _ | .serviceIn _ | .correct _ _ _ | .rehome _ | .defocusRelease _ | .clearAlerts _
  | .clearSticky _ | .report _ | .restart _ | .reservedCommand _ _ | .sunFrame _ _ _ | .receiverFrame _ _ _
  | .contributionFrame _ _ _ | .ownNumberFrame | .frameDropped _ | .commandFrame _ _ => true
  | .epochStart _ | .timeMark _ | .markWindowClose | .markLost | .slotStart _ | .busLost | .build | .frameBegin
  | .transmitCompletion | .echoMismatch | .enterSilent | .enterIsolated | .enterNight | .sunRecordExpiry _
  | .rxStale | .peerAgeOut _ _ | .residueExpiry _ | .aimTick _ _ | .axisStep _ _ | .indexEdge _ _ _
  | .homefail _ _ | .driveFault _ _ | .stowInputChange _ | .tripEdge _ | .generationEnd
  | .activateDetection _ | .releaseDetection _ | .dniPulse | .windowEnd | .powerOnReset _ | .resetn _
  | .loadEnd _ _ | .detectorLock _ => false

/-! ## Rounded values -/

/-- Section 5.2: `q` is `x / d` rounded to the nearest integer, ties away from zero. -/
def RoundsTo (x : Int) (d : Nat) (q : Int) : Prop :=
  2 * (q * d - x).natAbs ≤ d ∧ (2 * (q * d - x).natAbs = d → x.natAbs < (q * d).natAbs)

/-- Section 5.2: `m` is the exact integer square root. -/
def RootOf (n m : Nat) : Prop := m * m ≤ n ∧ n < (m + 1) * (m + 1)

/-- The sum of the squares of a vector's components. -/
def squares (v : Vec3) : Nat := (v.e * v.e + v.n * v.n + v.u * v.u).toNat

/-- R24: `q` is the unit scaling of a vector to Q14. -/
def ScalesTo (v q : Vec3) : Prop :=
  ∃ m, RootOf (squares v) m ∧ 0 < m ∧
    RoundsTo (v.e * 16384) m q.e ∧ RoundsTo (v.n * 16384) m q.n ∧ RoundsTo (v.u * 16384) m q.u

/-- R25, R26: `n` is the mirror normal from the sun vector toward a point. -/
def IsNormal (sun pivot point n : Vec3) : Prop :=
  ScalesTo ⟨point.e - pivot.e, point.n - pivot.n, point.u - pivot.u⟩ ⟨n.e - sun.e, n.n - sun.n, n.u - sun.u⟩

/-- The first of the entries of a list with the least cost. -/
def FirstLeast (cost : Int → Nat) (l : List Int) (x : Int) : Prop :=
  ∃ before after, l = before ++ x :: after ∧ (∀ y ∈ before, cost x < cost y) ∧ ∀ y ∈ after, cost x ≤ cost y

/-- R36, R37: of the candidates in their order of preference, `t` is the azimuth target, and `clamped` says that none lay
within the limits. -/
def AzimuthChosen (prm : AxisParams) (current : Int) (l : List Int) (t : Int) (clamped : Bool) : Prop :=
  let inside := l.filter fun x => prm.softMin ≤ x && x ≤ prm.softMax
  let excess := fun x : Int => if x < prm.softMin then (prm.softMin - x).toNat else (x - prm.softMax).toNat
  (inside ≠ [] → clamped = false ∧ FirstLeast (fun x => (x - current).natAbs) inside t) ∧
  (inside = [] → clamped = true ∧ ∃ x, FirstLeast excess l x ∧ t = if x < prm.softMin then prm.softMin else prm.softMax)

/-- R48: an axis at REST whose move toward its target starts, if its target differs from its position. -/
def moveStarted (x : Axis) : Axis :=
  let slew := x.prm.fineWindow < (x.target - x.position).natAbs
  let period := if slew then x.prm.startPeriod else x.prm.trackPeriod
  if x.target = x.position then { x with drive := .rest }
  else { x with
    dir := if x.position < x.target then .pos else .neg
    drive := if slew then .slewAccel else .trackMode
    period := period
    counter := if x.counter = 0 then period else x.counter }

/-! ## Detectors and frames -/

/-- R127, R128: a detector takes a bit received. It joins the history, of which the last 8 are held. A locked detector
whose pattern has the bit at its phase goes on; another compares its history with the pattern, oldest first, and locks or
searches, its phase then at 0 by the model's choice (log entry 50). -/
def TakesBit (pattern : List Bool) (reps : Nat) (bit : Bool) (d d' : Detector) : Prop :=
  let follows := d.locked = true ∧ pattern[d.phase]? = some bit
  d'.history = (d.history ++ [bit]).drop (d.history.length + 1 - 8) ∧
  (follows → d' = { d' with
    locked := true, phase := if d.phase + 1 = pattern.length then 0 else d.phase + 1
    run := min (d.run + 1) (reps * pattern.length) }) ∧
  (¬follows → pattern <:+ d'.history → d' = { d' with locked := true, phase := 0, run := pattern.length }) ∧
  (¬follows → ¬pattern <:+ d'.history → d' = { d' with locked := false, phase := 0, run := 0 })

/-- R128: the run of a detector reaches DETECT_REPS × L from below: by one more matching bit, or by a lock, before which it
is 0. -/
def Reaches (pattern : List Bool) (reps : Nat) (bit : Bool) (d d' : Detector) : Prop :=
  reps * pattern.length ≤ d'.run ∧
    (d.locked = true ∧ pattern[d.phase]? = some bit → d.run < reps * pattern.length)

/-- R201: the two-byte field of a frame at an offset. -/
def halfAt (bytes : List Byte) (o : Nat) : Half := half (bytes.getD o 0) (bytes.getD (o + 1) 0)

/-- R201: the four-byte field of a frame at an offset. -/
def wordAtByte (bytes : List Byte) (o : Nat) : Word :=
  word (bytes.getD o 0) (bytes.getD (o + 1) 0) (bytes.getD (o + 2) 0) (bytes.getD (o + 3) 0)

/-! ## The allowance and the passes of an allocation (R164 to R170) -/

/-- R164: what the entry of a way plans for a zone. -/
def wayPlan (z : Nat) : Option PeerEntry → Nat
  | none => 0
  | some e => (e.items.find? fun x => x.zone == z).elim 0 PlanItem.planned

/-- R164: a way counts as a claimant where its entry holds an item for the zone. -/
def wayClaims (z : Nat) : Option PeerEntry → Nat
  | none => 0
  | some e => if e.items.any fun x => x.zone == z then 1 else 0

/-- R168: one heliostat is taken before another: both eligible, the larger P first, equal P by index. -/
def takenBefore (s : State) (i j : Fin 8) : Bool :=
  s.helios[j].eligible && (s.helios[i].p < s.helios[j].p || (s.helios[j].p == s.helios[i].p && j < i))

/-- The sum of the P of the heliostats of a kind. -/
def sumOfP (s : State) (c : Fin 8 → Bool) : Nat := (((List.finRange 8).filter c).map fun j => s.helios[j].p).sum

/-- The zone an aim point field names, if any. -/
def zoneOfField (cfg : StationConfig) : Option Nat → Option Nat
  | none => none
  | some ap => cfg.zoneOf ap

/-- A heliostat is assigned to a zone in one state. -/
def keptOn (t : State) (z : Nat) (j : Fin 8) : Bool := zoneOfField t.cfg t.helios[j].assignment == some z

/-- A heliostat has a deferred placement on a zone in one state. -/
def placedOn (t : State) (z : Nat) (j : Fin 8) : Bool := zoneOfField t.cfg t.helios[j].deferred == some z

/-! ## Invariants -/

/-- R68: every engaged level is the highest demand, or NONE while masked. -/
abbrev EngagedOk (s : State) : Prop :=
  ∀ i : Fin 8, s.helios[i].engaged = s.helios[i].governing s.src s.sc.state.loaded

/-- R7, R8, R65, R69: an aim point is held or deferred only at TRACK, never both, and a snapshot exactly at DEFOCUS. -/
abbrev PlacementsOk (s : State) : Prop :=
  ∀ i : Fin 8,
    (s.helios[i].assignment.isSome = true → s.helios[i].engaged = .track) ∧
    (s.helios[i].deferred.isSome = true → s.helios[i].engaged = .track ∧ s.helios[i].assignment = none) ∧
    (s.helios[i].snapshot.isSome = true ↔ s.helios[i].engaged = .defocus)

/-- The counted P a heliostat has on a zone. -/
def assignedShare (cfg : StationConfig) (z : Nat) (h : Helio) : Nat :=
  if zoneOfField cfg h.assignment = some z then h.countedP else 0

/-- The placement P a heliostat has deferred to a zone. -/
def deferredShare (cfg : StationConfig) (z : Nat) (h : Helio) : Nat :=
  if zoneOfField cfg h.deferred = some z then h.placementP else 0

/-- R177: the sum of the counted P of the heliostats assigned to a zone. -/
def State.assignedSum (s : State) (z : Nat) : Nat := (s.helios.toList.map (assignedShare s.cfg z)).sum

/-- The sum of what is assigned to a zone and deferred to it. -/
def State.claimSum (s : State) (z : Nat) : Nat :=
  (s.helios.toList.map fun h => assignedShare s.cfg z h + deferredShare s.cfg z h).sum

/-- R177: no zone carries more than the station last published for it. -/
abbrev FluxBounded (s : State) : Prop := ∀ z : Fin 32, s.assignedSum z.val ≤ s.published z.val

/-- R7, R8: every aim point held or deferred is a candidate of its heliostat. -/
abbrev CandidatesOk (s : State) : Prop :=
  ∀ i : Fin 8,
    (∀ ap ∈ s.helios[i].assignment, ap ∈ s.helios[i].cfg.candidates) ∧
    (∀ ap ∈ s.helios[i].deferred, ap ∈ s.helios[i].cfg.candidates)

/-- R8, R101, R174: with the transmit buffer empty nothing is deferred; otherwise the carried list covers every claim. -/
abbrev CarriedOk (s : State) : Prop :=
  (s.bi.tx.phase = .empty → ∀ i : Fin 8, s.helios[i].deferred = none) ∧
  (s.bi.tx.phase ≠ .empty → ∀ z : Fin 32, s.claimSum z.val ≤ plannedFor s.fa.carried z.val)

/-- R12: the interest set of a station that has loaded is that of its records. -/
abbrev InterestOk (s : State) : Prop := s.sc.state.loaded = true → s.interest = s.interestZones

/-- R189: in NIGHT the NIGHT source is set. -/
abbrev NightOk (s : State) : Prop := s.sc.state = .night → s.src.stowNight = true

/-- R177 with what makes it hold at every event. -/
abbrev FluxOk (s : State) : Prop :=
  FluxBounded s ∧ EngagedOk s ∧ PlacementsOk s ∧ CandidatesOk s ∧ CarriedOk s ∧ InterestOk s ∧ NightOk s

/-- R112: a sun record is invalid or not older than SUN_HORIZON. -/
def freshSun (now : BitVec 32) (horizon : Nat) : Option SunRecord → Bool
  | none => true
  | some r => ageOf now r.epoch ≤ horizon

/-- R120: the receiver record is invalid or not older than RX_STALE. -/
def freshReceiver (now : BitVec 32) (stale : Nat) : Option RxRecord → Bool
  | none => true
  | some r => ageOf now r.epoch ≤ stale

/-- R150: a peer entry is invalid or not older than PEER_AGE_MAX. -/
def freshPeer (maxAge : Nat) : Option PeerEntry → Bool
  | none => true
  | some e => e.age ≤ maxAge

/-- R112, R120, R150: no valid record is older than its limit. -/
abbrev RecordsFresh (s : State) : Prop :=
  (∀ i : Fin 8, freshSun s.bi.epoch s.cfg.sunHorizon s.rs.sun[i] = true) ∧
  freshReceiver s.bi.epoch s.cfg.rxStale s.rs.receiver = true ∧
  ∀ i : Fin 32, freshPeer s.cfg.peerAgeMax s.pt.sets[i].way0 = true ∧
    freshPeer s.cfg.peerAgeMax s.pt.sets[i].way1 = true

/-- R125, R155: in LOADING and CONFIG-FAULT every sun record, the receiver record and every peer entry is invalid. -/
abbrev RecordsClear (s : State) : Prop :=
  s.sc.state.loaded = false →
    (∀ i : Fin 8, s.rs.sun[i] = none) ∧ s.rs.receiver = none ∧
    ∀ i : Fin 32, s.pt.sets[i].way0 = none ∧ s.pt.sets[i].way1 = none

/-- R159: from the end of a load that passes, H stays within DNI_FLOOR to 1,500 and is never below m. -/
abbrev IrradianceOk (s : State) : Prop :=
  s.sc.state.loaded = true → s.cfg.dniFloor ≤ s.irm.h ∧ s.irm.h ≤ 1500 ∧ s.irm.m ≤ s.irm.h

/-- R108: no counter is above 65,535. -/
abbrev CountersOk (c : Counters) : Prop :=
  c.crc ≤ 65535 ∧ c.framing ≤ 65535 ∧ c.length ≤ 65535 ∧ c.slot ≤ 65535 ∧ c.kind ≤ 65535 ∧
  c.collisions ≤ 65535 ∧ c.resyncs ≤ 65535 ∧ c.aborts ≤ 65535 ∧ c.refused ≤ 65535 ∧ c.indexResyncs ≤ 65535

/-- A value of a signed 32-bit register. -/
abbrev Signed32 (x : Int) : Prop := -2147483648 ≤ x ∧ x ≤ 2147483647

/-- Two signed 32-bit step counts, where there are any. -/
abbrev StepsOk (t : Option Steps) : Prop := ∀ x ∈ t, Signed32 x.az ∧ Signed32 x.el

/-- R43, R57: an axis's parameters and registers within the ranges of chapter 3, and a homing phase short of HOME_MAX. -/
abbrev AxisOk (h : Helio) (a : Axis) : Prop :=
  Signed32 a.position ∧ Signed32 a.target ∧ a.period ≤ 65535 ∧ a.counter ≤ 65535 ∧ a.takeUp ≤ 255 ∧
  a.phaseCount ≤ 50000000 ∧
  Signed32 a.prm.softMin ∧ Signed32 a.prm.softMax ∧ Signed32 a.prm.indexPos ∧ a.prm.startPeriod ≤ 65535 ∧
  a.prm.slewPeriod ≤ 65535 ∧ a.prm.trackPeriod ≤ 65535 ∧ a.prm.homePeriod ≤ 65535 ∧ a.prm.backlash ≤ 255 ∧
  a.prm.homeMax ≤ 50000000 ∧ (h.cfg.present = true → 1 ≤ a.prm.homeMax) ∧
  (a.homingPhase = true → h.cfg.present = true ∧ h.fault = .none ∧ a.phaseCount < a.prm.homeMax)

/-- R1, R9: the values of a heliostat record within their ranges, with those of its axes. -/
abbrev HelioOk (h : Helio) : Prop :=
  h.p ≤ 65535 ∧ h.countedP ≤ 65535 ∧ h.placementP ≤ 65535 ∧ h.c ≤ 32767 ∧ h.lastAz ≤ 65535 ∧
  -16384 ≤ h.lastEl ∧ h.lastEl ≤ 16384 ∧ h.cfg.area ≤ 600 ∧ h.cfg.delivery ≤ 255 ∧ Signed32 h.cfg.stow.az ∧
  Signed32 h.cfg.stow.el ∧ StepsOk h.hold ∧ StepsOk h.snapshot ∧ AxisOk h h.az ∧ AxisOk h h.el

/-- R39, R156, R158, R159: the irradiance values and their parameters within their ranges. -/
abbrev DniOk (s : State) : Prop :=
  s.irm.timer ≤ 249999 ∧ s.irm.pulses ≤ 65535 ∧ s.irm.m ≤ 1500 ∧ s.irm.h ≤ 1500 ∧ s.cfg.dniFloor ≤ 1500 ∧
  s.cfg.dniDesign ≤ 1500

/-- The ranges that chapters 1 to 3 give the registers of the heliostats and the axes, with the irradiance that P is
formed from, and no axis homing before a load. -/
abbrev HelioRangesOk (s : State) : Prop :=
  DniOk s ∧ (∀ i : Fin 8, HelioOk s.helios[i]) ∧
  (s.sc.state.loaded = false → ∀ i : Fin 8, s.helios[i].az.homingPhase = false ∧ s.helios[i].el.homingPhase = false)

/-- R127, R128: a detector's history, phase and run within their ranges. -/
abbrev DetectorOk (d : Detector) : Prop := d.history.length ≤ 8 ∧ d.phase ≤ 7 ∧ d.run ≤ 524280

/-- R139, R150: a peer entry's age and planned values within their ranges. -/
abbrev PeerOk (e : Option PeerEntry) : Prop := ∀ x ∈ e, x.age ≤ 8 ∧ ∀ i ∈ x.items, i.planned ≤ 65535

/-- R119: the two fields of every zone of the receiver record. -/
abbrev ReceiverOk (r : Option RxRecord) : Prop := ∀ x ∈ r, ∀ z ∈ x.zones, z.limit ≤ 65535 ∧ z.measured ≤ 65535

/-- The ranges that the tables of chapters 5 to 10 give the registers, with those of the parameters they rest on. -/
abbrev RangesOk (s : State) : Prop :=
  s.bi.timer ≤ 1999999 ∧ s.bi.missedMarks ≤ 4 ∧ s.bi.quietSlots ≤ 400 ∧ s.bi.collisionRun ≤ 3 ∧
  s.bi.outcomes.length ≤ 4 ∧ CountersOk s.bi.counters ∧ s.bi.rx.bytes.length ≤ 192 ∧
  (∀ c ∈ s.bi.rx.char, c.length ≤ 9) ∧ s.bi.rx.slot.number ≤ 399 ∧ (∀ f ∈ s.bi.slotBefore, f.number ≤ 399) ∧
  DetectorOk s.dcu.act ∧ DetectorOk s.dcu.rel ∧ s.dcu.genCount ≤ 500000 ∧ s.dcu.genMicros ≤ 1 ∧
  s.cfg.activate.length ≤ 8 ∧ s.cfg.release.length ≤ 8 ∧ s.cfg.detectReps ≤ 65535 ∧ s.cfg.genMs ≤ 1000 ∧
  s.rs.nightCount ≤ 8 ∧ ReceiverOk s.rs.receiver ∧ s.sc.isoCount ≤ 16 ∧ s.sc.number ≤ 511 ∧ DniOk s ∧
  s.cfg.peerAgeMax ≤ 8 ∧ (∀ i : Fin 32, PeerOk s.pt.sets[i].way0 ∧ PeerOk s.pt.sets[i].way1) ∧
  (∀ r ∈ s.pt.residue, r.value ≤ 65535) ∧ (∀ i ∈ s.fa.plan, i.planned ≤ 65535) ∧ ∀ i ∈ s.fa.carried, i.planned ≤ 65535

end Sys2Proof.Machine
end

