-- ==== Sys2Proof/Certificates/Slice0/Obligations.lean ====
section
/-! DEFINITION. The statements for the provers. Each docstring names the rules of spec/ it rests on. -/

section

open Sys2Proof Sys2Proof.Machine

/-! ## Steps -/

/-- The model's queue (log entry 2): a step takes the command at the front and runs it with the rest of the queue. -/
def Obligations.StepTakesTheFrontCommand : Prop :=
  ∀ (c : Instr) (rest : List Instr) (s : State), s.pending = c :: rest →
    step s = exec c { s with pending := rest }

/-- The model's choice (log entries 15, 27 and 37): no command stops the block, and none touches the queue. -/
def Obligations.CommandsGoOnAndKeepTheQueue : Prop :=
  ∀ (c : Instr) (s : State), ∃ t, exec c s = .next t ∧ t.pending = s.pending ∧ t.draws = s.draws

/-- R19, R21, R44, R87, R89, R95, R96, R134, R157, R192 (the microsecond itself is log entry 2): on an empty queue the
clocks advance by one microsecond, each event of them that falls due joins the queue, and while a reset is in force
nothing runs. No tick falls before the first epoch start after a reset, and the tick of a mark's epoch start that is
still due comes before every other event (R116; log entry 10). The clocks are the epoch timer, the counter of
each running generator, the window timer, the time of the own frame on the line, the bits of a generation, and the time
of a tick in progress; each stands where its own event falls due, until that event is taken. That every clock, the epoch
timer too, is held while a power-on reset or RESETn is in force is log entry 55. -/
def Obligations.IdleMicrosecond : Prop :=
  ∀ s : State, s.pending = [] → ∃ t, step s = .next t ∧
    (s.inReset = true → t = s) ∧
    (s.inReset = false →
      (s.bi.timer < 1999999 → t.bi.timer = s.bi.timer + 1) ∧
      (s.bi.timer = 1999999 → ∃ b, Instr.epochStart b ∈ t.pending) ∧
      (∀ k, 1 ≤ k → k ≤ 399 → s.bi.timer + 1 = 5000 * k → Instr.slotStart k ∈ t.pending ∧
        (s.running = true → k = s.sc.number → Instr.build ∈ t.pending)) ∧
      (s.bi.markWindow = true → s.bi.timer = 999 → Instr.markWindowClose ∈ t.pending) ∧
      (s.bi.tx.phase = .built → s.bi.timer + 1 = 5000 * s.sc.number + 100 → Instr.frameBegin ∈ t.pending) ∧
      (s.bi.tx.phase = .sending → s.bi.tx.micros + 1 = 20 * s.bi.tx.bytes.length →
        Instr.transmitCompletion ∈ t.pending) ∧
      (∀ k, s.running = true → s.acu.scheduled = true → s.acu.tick = none → s.acu.due = none →
        s.cfg.aimPeriod ≠ 0 → k % s.cfg.aimPeriod = 0 → 1 ≤ k → k < 2000 → s.bi.timer + 1 = 1000 * k →
        ∃ stop, Instr.aimTick k stop ∈ t.pending) ∧
      (∀ e, s.acu.tick = none → s.acu.due = some e → ∃ stop rest, t.pending = Instr.aimTick 0 stop :: rest) ∧
      (∀ k, s.acu.tick = some k → k.turn < 8 → 1990 ≤ k.micros → Instr.aimTick 0 8 ∈ t.pending) ∧
      (s.acu = .blank → s.bi.timer < 1999999 → ∀ k stop, Instr.aimTick k stop ∉ t.pending) ∧
      (∀ (i : Fin 8) (a : AxisId), (s.helios[i].axis a).period ≠ 0 → (s.helios[i].axis a).counter ≤ 1 →
        Instr.axisStep i a ∈ t.pending) ∧
      (∀ (i : Fin 8) (a : AxisId), (s.helios[i].axis a).period ≠ 0 → 1 < (s.helios[i].axis a).counter →
        (t.helios[i].axis a).counter = (s.helios[i].axis a).counter - 1) ∧
      (s.irm.running = true → s.irm.timer = 249999 → Instr.windowEnd ∈ t.pending) ∧
      (s.dcu.generating = true → s.dcu.genMicros = 1 → s.dcu.genCount = 1 → Instr.generationEnd ∈ t.pending) ∧
      (∀ (i : Fin 8) (a : AxisId), (s.helios[i].axis a).period = 0 ∨ (s.helios[i].axis a).counter ≤ 1 →
        (t.helios[i].axis a).counter = (s.helios[i].axis a).counter) ∧
      (t.irm.timer = if s.irm.running = true ∧ s.irm.timer < 249999 then s.irm.timer + 1 else s.irm.timer) ∧
      (t.bi.tx.micros = if s.bi.tx.phase = .sending then s.bi.tx.micros + 1 else s.bi.tx.micros) ∧
      (s.dcu.generating = true → s.dcu.genMicros = 0 → t.dcu.genMicros = 1 ∧ t.dcu.genCount = s.dcu.genCount) ∧
      (s.dcu.generating = true → s.dcu.genMicros ≠ 0 → t.dcu.genMicros = 0 ∧ t.dcu.genCount = s.dcu.genCount - 1) ∧
      (s.dcu.generating = false → t.dcu = s.dcu) ∧
      (t.acu.tick = s.acu.tick.map fun k => { k with micros := k.micros + 1 }) ∧
      (t.bi.slotBefore = if s.bi.timer < 1999999 ∧ (s.bi.timer + 1) % 5000 = 0
        then some { number := s.bi.timer / 5000, past := none } else none) ∧
      (t.bi.timerInstant = if 1999999 ≤ s.bi.timer ∨ (s.bi.timer + 1) % 5000 = 0 then .due else .plain) ∧
      (1999999 ≤ s.bi.timer → t.bi.timer = s.bi.timer) ∧ t.draws = s.draws + 1 ∧
      (∀ i : Fin 8, t.helios[i] = { s.helios[i] with
        az := { s.helios[i].az with counter := t.helios[i].az.counter }
        el := { s.helios[i].el with counter := t.helios[i].el.counter } }) ∧
      t = { s with
        pending := t.pending, draws := t.draws, helios := t.helios
        irm := { s.irm with timer := t.irm.timer }
        dcu := { s.dcu with genCount := t.dcu.genCount, genMicros := t.dcu.genMicros }
        acu := { s.acu with tick := t.acu.tick }
        bi := { s.bi with
          timer := t.bi.timer, line := t.bi.line, rx := t.bi.rx, tx := { s.bi.tx with micros := t.bi.tx.micros }
          slotBefore := t.bi.slotBefore, timerInstant := t.bi.timerInstant
          epochNow := false } })

/-- R86, R90, R91, R97, R127 (the bit cells of the receiver are log entry 43; two detections on one bit are log entry
8): what a microsecond of the line does: a fall begins a frame, the own frame where the station sends, or a character;
the second microsecond of a cell gives a bit, ten bits make a character, twenty idle bits end the frame, whose row joins
the queue unless the frame is exempt; a sampled bit that differs from the one driven is an echo mismatch. That a cell is
two microseconds, sampled and echo-checked in the second, is log entry 29. -/
def Obligations.IdleMicrosecondReceives : Prop :=
  ∀ s t : State, s.pending = [] → s.inReset = false → step s = .next t →
    let bit := t.bi.line.level
    let rx := s.bi.rx
    let sampled := bit = s.bi.line.level ∧ s.bi.line.cell = 0
    let hears := s.dcu.generating = false ∧ rx.held = false
    (bit ≠ s.bi.line.level → t.bi.line.cell = 0) ∧
    (bit = s.bi.line.level → t.bi.line.cell = (s.bi.line.cell + 1) % 2) ∧
    (¬hears → t.bi.rx = if rx.inFrame = true ∧ rx.char = none ∧ 20 ≤ rx.idle then .clear else rx) ∧
    (hears → s.bi.line.level = true → bit = false → rx.char = none →
      (rx.inFrame = false → t.bi.rx = { Receiver.clear with
          inFrame := true, own := decide (s.bi.tx.phase = .sending), slot := t.bi.rx.slot, char := some [] } ∧
        (t.bi.rx.slot = { number := s.bi.timer / 5000, past := none } ∨ s.bi.slotBefore = some t.bi.rx.slot)) ∧
      (rx.inFrame = true → t.bi.rx = { rx with char := some [], idle := 0 })) ∧
    (∀ bits, hears → sampled → rx.char = some bits → bits.length < 9 → t.bi.rx = { rx with char := some (bits ++ [bit]) }) ∧
    (∀ bits, hears → sampled → rx.char = some bits → bits.length = 9 → t.bi.rx = { rx with
      char := none
      idle := 0
      count := rx.count + 1
      bytes := if rx.bytes.length < 192
        then rx.bytes ++ [(BitVec.ofBoolListLE ((bits.drop 1).take 8)).setWidth 8] else rx.bytes
      stopsOk := rx.stopsOk && bit }) ∧
    (hears → sampled → rx.char = none → rx.inFrame = true →
      (bit = false → t.bi.rx = { rx with idle := 0 }) ∧
      (bit = true → rx.idle < 19 → t.bi.rx = { rx with idle := rx.idle + 1 }) ∧
      (bit = true → rx.idle = 19 → t.bi.rx = .clear ∧
        ((rx.slot.number = s.sc.number ∧ (rx.slot.past = some true ∨ rx.slot.past = none ∧ s.bi.tx.begunNow = true)) ∨
          s.frameEvent rx.raw ∈ t.pending))) ∧
    (s.running = true → s.dcu.generating = false → sampled →
      Instr.activateDetection bit ∈ t.pending ∨ Instr.releaseDetection bit ∈ t.pending ∨ Instr.detectorLock bit ∈ t.pending) ∧
    (∀ b, s.bi.tx.phase = .sending → s.dcu.generating = false → s.bi.tx.bytes[s.bi.tx.micros / 20]? = some b →
      s.bi.tx.micros % 2 = 1 → characterBit b (s.bi.tx.micros % 20 / 2) ≠ bit → Instr.echoMismatch ∈ t.pending)

/-- R92, R181, R183, R192: in LOADING and in CONFIG-FAULT no frame and no command entry is taken; while a reset is in force no
block acts at all, every output is inactive, and only the levels of pins follow (the pins are log entry 28). -/
def Obligations.NothingActsBeforeALoad : Prop :=
  ∀ (c : Instr) (s : State),
    (s.sc.state.loaded = false → fromBus c = true → exec c s = .next s) ∧
    (s.inReset = true → s.alertLow = false ∧ ∀ (i : Fin 8) (a : AxisId),
      s.stepOut i a = false ∧ s.dirOut i a = false ∧ s.drven i = false) ∧
    (s.inReset = true → (∀ input, c ≠ .powerOnReset input) → (∀ input, c ≠ .resetn input) → ∃ t, exec c s = .next t ∧ t = { s with helios := t.helios, stowin := t.stowin, tripin := t.tripin } ∧
      ∀ i : Fin 8, t.helios[i] = { s.helios[i] with
        drvflt := t.helios[i].drvflt
        az := { s.helios[i].az with index := t.helios[i].az.index }
        el := { s.helios[i].el with index := t.helios[i].el.index } })

/-! ## Levels -/

/-- R68 to R72: what a recomputed engaged level does to its heliostat: on entering STOW, DEFOCUS and HOLD both axes are
written their targets (WrittenTargetsMoveAndArrive opens that), and nothing else of the heliostat changes. That
placement P is 0 with no deferred placement is the model's choice (log entry 49). That the snapshot is taken from the
positions also where a heliostat travels to its stow posture is log entry 53. -/
def Obligations.LevelChange : Prop :=
  ∀ (h : Helio) (src : Sources) (loaded : Bool),
    let g := h.governing src loaded
    let h' := h.reengage src loaded
    h'.engaged = g ∧ LevelFrame h h' ∧ (h.engaged = g → h' = h) ∧
      (h.engaged ≠ g →
        (h.engaged = .track → h'.assignment = none ∧ h'.deferred = none) ∧
        (h.engaged = .track → h'.placementP = 0) ∧
        (h.engaged ≠ .track →
          h'.assignment = h.assignment ∧ h'.deferred = h.deferred ∧ h'.placementP = h.placementP) ∧
        (h.engaged = .defocus → h'.snapshot = none) ∧
        (h.engaged ≠ .defocus → g ≠ .defocus → h'.snapshot = h.snapshot) ∧
        (g = .stow →
          h'.az = h.az.writeTarget h.cfg.stow.az ∧ h'.el = h.el.writeTarget h.cfg.stow.el ∧ h'.limit = h.limit) ∧
        (g = .defocus →
          h'.snapshot = some ⟨h.az.soft h.az.position, h.el.soft (h.el.position + h.cfg.defocusOffset)⟩ ∧
          h'.az = h.az.writeTarget (h.az.soft h.az.position) ∧
          h'.el = h.el.writeTarget (h.el.soft (h.el.position + h.cfg.defocusOffset)) ∧
          (h'.limit = true ↔ h.limit = true ∨ h.az.soft h.az.position ≠ h.az.position ∨
            h.el.soft (h.el.position + h.cfg.defocusOffset) ≠ h.el.position + h.cfg.defocusOffset)) ∧
        (∀ t, h.hold = some t → g = .hold →
          h'.az = h.az.writeTarget t.az ∧ h'.el = h.el.writeTarget t.el ∧ h'.limit = h.limit) ∧
        (g = .standby ∨ g = .track ∨ g = .none → h'.az = h.az ∧ h'.el = h.el ∧ h'.limit = h.limit))

/-- R67, R68: the engaged level of every heliostat is the highest demand, or NONE while masked, after every step. -/
def Obligations.EngagedLevelIsKept : Prop :=
  ∀ s t : State, EngagedOk s → step s = .next t → EngagedOk t

/-! ## Stow, standby and hold commands -/

/-- R76 to R79, R103, R197: STOW-FIELD sets STOW CMD, and every unmasked heliostat not at STOW is sent to its stow
posture; STOW-RELEASE in both modes of the stow input, STANDBY-SET and STANDBY-CLEAR. The snapshot of a heliostat that
DEFOCUS takes from STOW is that of its positions (log entry 53). -/
def Obligations.StowAndStandbyCommands : Prop :=
  (∀ s : State, s.running = true → EngagedOk s →
    ∃ t, exec (.stowField 255) s = .next t ∧ t.src = { s.src with stowCmd := true } ∧
      (∀ i : Fin 8,
        if s.helios[i].computed = false ∨ s.helios[i].engaged = .stow then t.helios[i] = s.helios[i]
        else t.helios[i] = { s.helios[i].leave with
          engaged := .stow
          az := s.helios[i].az.writeTarget s.helios[i].cfg.stow.az
          el := s.helios[i].el.writeTarget s.helios[i].cfg.stow.el }) ∧
      Answered s t 1 255 .done ∧ Latched s t ∧
      t = { s with src := t.src, helios := t.helios, bi := t.bi, au := t.au }) ∧
  ∀ s : State, s.running = true →
    let demanded := s.src.stowCmd || (s.cfg.stowEdge && s.src.stowLine)
    (demanded = false → ∃ t, exec (.stowRelease 255) s = .next t ∧ Refused s t 2 255 .state) ∧
    (demanded = true → ∃ t, exec (.stowRelease 255) s = .next t ∧
      t.src = { s.src with stowCmd := false, stowLine := s.src.stowLine && !s.cfg.stowEdge } ∧
      Recomputed s t ∧ Answered s t 2 255 .done ∧ Latched s t ∧
      t = { s with src := t.src, helios := t.helios, bi := t.bi, au := t.au }) ∧
    (∃ t, exec (.standbySet 255) s = .next t ∧ t.src = { s.src with standbyCmd := true } ∧
      Recomputed s t ∧ Answered s t 3 255 .done ∧ Latched s t ∧
      t = { s with src := t.src, helios := t.helios, bi := t.bi, au := t.au }) ∧
    (s.src.standbyCmd = true → ∃ t, exec (.standbyClear 255) s = .next t ∧
      t.src = { s.src with standbyCmd := false } ∧ Recomputed s t ∧ Answered s t 4 255 .done ∧ Latched s t ∧
      t = { s with src := t.src, helios := t.helios, bi := t.bi, au := t.au }) ∧
    (s.src.standbyCmd = false → ∃ t, exec (.standbyClear 255) s = .next t ∧ Refused s t 4 255 .state)

/-- R14, R15, R16, R62, R73, R75, R76, R103, R106, R132, R193, R199: an entry for the whole station that does not carry 0xFF is
answered RANGE, and so is an entry for one heliostat that carries 8 or above or an absent heliostat; 0xFF has its own
meaning for REHOME and REPORT. Every one of these outcomes returns the field as received (R103). That R76 and R132, which
give 0xFF as the heliostat of the outcomes of their commands, speak of the entries that carry it is the model's inference
(log entry 42). -/
def Obligations.WrongHeliostatFieldsAreRange : Prop :=
  ∀ (s : State) (hf : Byte), s.running = true →
    (hf ≠ 255 →
    (∃ t, exec (.stowField hf) s = .next t ∧ Refused s t 1 hf .range) ∧
    (∃ t, exec (.stowRelease hf) s = .next t ∧ Refused s t 2 hf .range) ∧
    (∃ t, exec (.standbySet hf) s = .next t ∧ Refused s t 3 hf .range) ∧
    (∃ t, exec (.standbyClear hf) s = .next t ∧ Refused s t 4 hf .range) ∧
    (∃ t, exec (.defocusRelease hf) s = .next t ∧ Refused s t 11 hf .range) ∧
    (∃ t, exec (.clearAlerts hf) s = .next t ∧ Refused s t 12 hf .range) ∧
    (∃ t, exec (.clearSticky hf) s = .next t ∧ Refused s t 13 hf .range) ∧
    (∃ t, exec (.restart hf) s = .next t ∧ Refused s t 15 hf .range)) ∧
    (∀ a b : Word, (∀ i : Fin 8, hf.toNat = i.val → s.helios[i].cfg.present = false) →
    (∃ t, exec (.hold hf a b) s = .next t ∧ Refused s t 5 hf .range) ∧
    (∃ t, exec (.holdRelease hf) s = .next t ∧ Refused s t 6 hf .range) ∧
    (∃ t, exec (.serviceOut hf) s = .next t ∧ Refused s t 7 hf .range) ∧
    (∃ t, exec (.serviceIn hf) s = .next t ∧ Refused s t 8 hf .range) ∧
    (∃ t, exec (.correct hf a b) s = .next t ∧ Refused s t 9 hf .range) ∧
    (hf ≠ 255 → (∃ t, exec (.rehome hf) s = .next t ∧ Refused s t 10 hf .range) ∧
      ∃ t, exec (.report hf) s = .next t ∧ Refused s t 14 hf .range))

/-- R73, R74: HOLD clamps and stores its target, and writes it where HOLD is or becomes engaged; a held and moving
heliostat answers BUSY. That placement P is 0 where HOLD takes the heliostat from TRACK is the model's choice (log entry
49). -/
def Obligations.HoldTakesItsTarget : Prop :=
  ∀ (s : State) (i : Fin 8) (az el : Word), s.running = true → EngagedOk s → s.helios[i].cfg.present = true →
    let h := s.helios[i]
    let target : Steps := ⟨h.az.soft az.toInt, h.el.soft el.toInt⟩
    let taken : Helio := { h with hold := some target, limit := h.limit || target != ⟨az.toInt, el.toInt⟩ }
    let hf := BitVec.ofNat 8 i.val
    (h.engaged = .hold ∧ h.posture = .moving → ∃ t, exec (.hold hf az el) s = .next t ∧ Refused s t 5 hf .busy) ∧
    (¬(h.engaged = .hold ∧ h.posture = .moving) →
      ∃ t, exec (.hold hf az el) s = .next t ∧ Answered s t 5 hf .done ∧ Latched s t ∧ OthersKept s t i ∧
        (if h.computed = true ∧ demandedLevel s.src true = .hold then
          t.helios[i] = { (if h.engaged = .track then unplaced taken else taken) with
            engaged := .hold, az := h.az.writeTarget target.az, el := h.el.writeTarget target.el }
        else t.helios[i] = taken) ∧
        t = { s with helios := t.helios, bi := t.bi, au := t.au })

/-- R75: HOLD-RELEASE withdraws the HOLD source and its target; no target is written. -/
def Obligations.HoldReleaseWithdraws : Prop :=
  ∀ (s : State) (hf : Byte), s.running = true → EngagedOk s →
    ((∀ i : Fin 8, hf.toNat = i.val → s.helios[i].cfg.present = false) →
      ∃ t, exec (.holdRelease hf) s = .next t ∧ Refused s t 6 hf .range) ∧
    (∀ i : Fin 8, hf.toNat = i.val → s.helios[i].cfg.present = true → s.helios[i].hold = none →
      ∃ t, exec (.holdRelease hf) s = .next t ∧ Refused s t 6 hf .state) ∧
    (∀ i : Fin 8, hf.toNat = i.val → s.helios[i].cfg.present = true → s.helios[i].hold ≠ none →
      ∃ t, exec (.holdRelease hf) s = .next t ∧ Answered s t 6 hf .done ∧ Latched s t ∧ OthersKept s t i ∧
        t.helios[i] = { s.helios[i] with
          hold := none
          engaged := if s.helios[i].engaged = .hold then demandedLevel s.src false else s.helios[i].engaged } ∧
        t = { s with helios := t.helios, bi := t.bi, au := t.au })

/-! ## Service, correction, re-homing -/

/-- R14, R12, R13, R61: SERVICE-OUT stops and masks a heliostat that is IN, and the interest set is computed afresh: a zone
that departs loses its residue record, its want flag and its peer items, and keeps its published value. That placement P
is 0 is the model's choice (log entry 49), and so is the expiry of a zone's fresh residue, which is not stated here (log
entry 44). -/
def Obligations.ServiceOutTakesOut : Prop :=
  ∀ (s : State) (i : Fin 8), s.running = true → s.helios[i].cfg.present = true →
    let hf := BitVec.ofNat 8 i.val
    (s.helios[i].inService = false → ∃ t, exec (.serviceOut hf) s = .next t ∧ Refused s t 7 hf .state) ∧
    (s.helios[i].inService = true →
      ∃ t, exec (.serviceOut hf) s = .next t ∧ Answered s t 7 hf .done ∧ Latched s t ∧ OthersKept s t i ∧
        t.helios[i] = outOfService s.helios[i] ∧ t.interest = t.interestZones ∧
        InterestFollowed s t ∧
        t = { s with helios := t.helios, interest := t.interest, pt := t.pt, fa := t.fa, bi := t.bi, au := t.au })

/-- R15, R54, R58, R13, R197: SERVICE-IN clears the fault of a heliostat that is OUT and starts its homing; with DRVFLT active
a DRIVE fault in the record refuses it, and otherwise a DRIVE fault is detected at once, which the Alert Unit sees as
a second change. Zones that come back start with residue 0, no want flag and O_z as it was held. That the azimuth axis
rests with its target register as it was is the model's choice (log entry 21), and so is that the cleared fault and the
one detected at once are two changes to the Alert Unit (log entry 31), and that placement P is 0 under the DRIVE fault
(log entry 49). -/
def Obligations.ServiceInStartsHoming : Prop :=
  ∀ (s : State) (i : Fin 8), s.running = true → EngagedOk s → s.helios[i].cfg.present = true →
    let hf := BitVec.ofNat 8 i.val
    let h := s.helios[i]
    let inNow : Helio := { h with fault := .none, inService := true, homed := false }
    (h.inService = true ∨ (h.fault = .drive ∧ h.drvflt = true) →
      ∃ t, exec (.serviceIn hf) s = .next t ∧ Refused s t 8 hf .state) ∧
    (h.inService = false → ¬(h.fault = .drive ∧ h.drvflt = true) →
      ∃ t, exec (.serviceIn hf) s = .next t ∧ Answered s t 8 hf .done ∧ OthersKept s t i ∧
        LatchedThrough s { s with helios := s.helios.set i inNow } t ∧
        (h.drvflt = false → t.helios[i] = homingBegun inNow ∧ Latched s t) ∧
        (h.drvflt = true → t.helios[i] = { inNow with
            fault := .drive, homing := none, deferred := none, placementP := 0
            az := t.helios[i].az, el := t.helios[i].el } ∧
          ∀ a : AxisId, (t.helios[i].axis a).drive = .rest ∧ (t.helios[i].axis a).period = 0 ∧
            (t.helios[i].axis a).target = (t.helios[i].axis a).position ∧
            (t.helios[i].axis a).prm = (h.axis a).prm ∧ (t.helios[i].axis a).index = (h.axis a).index) ∧
        t.interest = t.interestZones ∧ InterestFollowed s t ∧
        t = { s with helios := t.helios, interest := t.interest, pt := t.pt, fa := t.fa, bi := t.bi, au := t.au })

/-- R16: CORRECT replaces both offsets together, in any state of the heliostat, or neither. -/
def Obligations.CorrectReplacesBothOffsets : Prop :=
  ∀ (s : State) (i : Fin 8) (dAz dEl : Word), s.running = true → s.helios[i].cfg.present = true →
    let hf := BitVec.ofNat 8 i.val
    let fits := -2048 ≤ dAz.toInt ∧ dAz.toInt ≤ 2047 ∧ -2048 ≤ dEl.toInt ∧ dEl.toInt ≤ 2047
    (fits → ∃ t, exec (.correct hf dAz dEl) s = .next t ∧ Answered s t 9 hf .done ∧
      t = { s with
        helios := s.helios.set i { s.helios[i] with dAz := dAz.toInt, dEl := dEl.toInt }
        bi := t.bi }) ∧
    (¬fits → ∃ t, exec (.correct hf dAz dEl) s = .next t ∧ Refused s t 9 hf .range)

/-- R62: REHOME of one heliostat: BUSY while it is homing, STATE while it is OUT or its DRVFLT is active, else taken; with
0xFF it takes every present heliostat that passes, and its one outcome is DONE, RANGE with no present heliostat, or that
of the lowest present heliostat not taken. That the azimuth axis rests with its target register as it was is the
model's choice (log entry 21), and so is that placement P is 0 where the heliostat leaves TRACK (log entry 49). -/
def Obligations.RehomeTakesWhoPasses : Prop :=
  (∀ (s : State) (i : Fin 8), s.running = true → s.helios[i].cfg.present = true →
    let hf := BitVec.ofNat 8 i.val
    let h := s.helios[i]
    (h.homing ≠ none → ∃ t, exec (.rehome hf) s = .next t ∧ Refused s t 10 hf .busy) ∧
    (h.homing = none → h.inService = false ∨ h.drvflt = true →
      ∃ t, exec (.rehome hf) s = .next t ∧ Refused s t 10 hf .state) ∧
    (h.homing = none → h.inService = true → h.drvflt = false →
      ∃ t, exec (.rehome hf) s = .next t ∧ Answered s t 10 hf .done ∧ Latched s t ∧ OthersKept s t i ∧
        t.helios[i] = rehomed h ∧ t = { s with helios := t.helios, bi := t.bi, au := t.au })) ∧
  ∀ s : State, s.running = true →
    ∃ t, exec (.rehome 255) s = .next t ∧ Latched s t ∧ t = { s with helios := t.helios, bi := t.bi, au := t.au } ∧
      (∀ i : Fin 8, let h := s.helios[i]
        if h.cfg.present = true ∧ h.homing = none ∧ h.inService = true ∧ h.drvflt = false then t.helios[i] = rehomed h
        else t.helios[i] = h) ∧
      ((∀ i : Fin 8, s.helios[i].cfg.present = false) → Answered s t 10 255 .range) ∧
      ((∃ i : Fin 8, s.helios[i].cfg.present = true) →
        (∀ i : Fin 8, s.helios[i].cfg.present = true →
          s.helios[i].homing = none ∧ s.helios[i].inService = true ∧ s.helios[i].drvflt = false) →
        Answered s t 10 255 .done) ∧
      (∀ i : Fin 8, s.helios[i].cfg.present = true →
        (∀ j : Fin 8, j < i → s.helios[j].cfg.present = true →
          s.helios[j].homing = none ∧ s.helios[j].inService = true ∧ s.helios[j].drvflt = false) →
        (s.helios[i].homing ≠ none → Answered s t 10 255 .busy) ∧
        (s.helios[i].homing = none → s.helios[i].inService = false ∨ s.helios[i].drvflt = true →
          Answered s t 10 255 .state))

/-! ## The other commands -/

/-- R132, R199: DEFOCUS-RELEASE in the three states of the code; CLEAR-ALERTS clears the latches with a published mark;
CLEAR-STICKY clears LIMIT, GEOM, ZONE-SAT and POR. -/
def Obligations.ReleaseAndClearingCommands : Prop :=
  ∀ s : State, s.running = true →
    (s.dcu.generating = true → ∃ t, exec (.defocusRelease 255) s = .next t ∧ Refused s t 11 255 .busy) ∧
    (s.dcu.generating = false → s.dcu.active = false →
      ∃ t, exec (.defocusRelease 255) s = .next t ∧ Refused s t 11 255 .state) ∧
    (s.dcu.generating = false → s.dcu.active = true →
      ∃ t, exec (.defocusRelease 255) s = .next t ∧ Answered s t 11 255 .done ∧ Latched s t ∧
        t.dcu = { s.dcu with active := false } ∧ t.src = { s.src with code := false } ∧ Recomputed s t ∧
        t = { s with dcu := t.dcu, src := t.src, helios := t.helios, bi := t.bi, au := t.au }) ∧
    (∃ t, exec (.clearAlerts 255) s = .next t ∧ Answered s t 12 255 .done ∧
      t = { s with
        bi := t.bi
        au := { s.au with
          latches := s.au.latches &&& ~~~s.au.published
          carried := s.au.carried &&& ~~~s.au.published
          published := 0 } }) ∧
    (∃ t, exec (.clearSticky 255) s = .next t ∧ Answered s t 13 255 .done ∧ Latched s t ∧
      (∀ i : Fin 8, t.helios[i] = { s.helios[i] with limit := false, geom := false }) ∧
      t = { s with
        helios := t.helios, fa := { s.fa with zoneSat := false }, sc := { s.sc with por := false }
        bi := t.bi, au := t.au })

/-- R106: REPORT replaces the pending request by a present heliostat or by the counters. -/
def Obligations.ReportReplacesTheRequest : Prop :=
  ∀ (s : State) (hf : Byte), s.running = true →
    (∀ i : Fin 8, hf.toNat = i.val → s.helios[i].cfg.present = true →
      ∃ t, exec (.report hf) s = .next t ∧ t = { s with bi := t.bi } ∧
        Answered { s with bi := { s.bi with report := some (.helio i), reportCarried := false } } t 14 hf .done) ∧
    (hf = 255 → ∃ t, exec (.report hf) s = .next t ∧ t = { s with bi := t.bi } ∧
      Answered { s with bi := { s.bi with report := some .counters, reportCarried := false } } t 14 hf .done) ∧
    (hf ≠ 255 → (∀ i : Fin 8, hf.toNat = i.val → s.helios[i].cfg.present = false) →
      ∃ t, exec (.report hf) s = .next t ∧ Refused s t 14 hf .range)

/-- R193, R64, R18, R85, R109, R125, R137, R155, R161, R179, R180, R195: RESTART keeps positions, last step directions, take-up
counts, homed flags, faults and offsets, samples the straps, and everything else takes its initial value. The model's
choice: the enable mask 0 through the load (log entry 4), the strap levels from the state (log entry 5), the old
configuration through the load (24), the queue (27), the pins and the line (28), and the phase 0 of a searching detector
(50). DIR is read as one of the items that R193 gives their initial value (51). -/
def Obligations.RestartKeepsWhatItKeeps : Prop :=
  ∀ s : State, s.running = true →
    ∃ t, exec (.restart 255) s = .next t ∧
      (∀ i : Fin 8, let h := s.helios[i]
        t.helios[i] = { h with
          assignment := none, deferred := none, placementP := 0, countedP := 0, p := 0, c := 0, lastAz := 0
          lastEl := 0, limit := false, geom := false, homing := none, hold := none, engaged := .none
          snapshot := none
          az := { h.az.stopNow with
            drive := .rest, target := h.az.stopNow.position, dir := .neg, phaseCount := 0 }
          el := { h.el.stopNow with
            drive := .rest, target := h.el.stopNow.position, dir := .neg, phaseCount := 0 } }) ∧
      t = { State.reset with
        pending := s.pending, draws := s.draws, cfg := s.cfg, helios := t.helios
        stowin := s.stowin, tripin := s.tripin, straps := s.straps
        bi := { State.reset.bi with line := s.bi.line, timerInstant := .cut }
        sc := { s.sc with state := .loading, listen := false, isoCount := 0, number := s.straps.toNat } }

/-- R92, R93, R94, R102: a COMMAND frame is heard and its entries are taken one after another, those for other stations
passed over; a RESTART for this station that passes its check is the last entry taken. -/
def Obligations.CommandFrameTakesEntriesInOrder : Prop :=
  ∀ (slot : Fin 8) (es : List CommandEntry) (s : State), s.accepts slot.val = true → es.length ≤ 8 →
    (∀ e ∈ es, addressedTo s.sc.number e → ¬(e.kind = 15 ∧ e.heliostat = 255)) →
    ∃ heard, heard = { s with bi := heardBus s.bi, au := heard.au } ∧ Latched s heard ∧
      (1 ≤ es.length → exec (.commandFrame slot es) s = .next (es.foldl (entryStep s.sc.number) heard)) ∧
      ∀ (r : CommandEntry) (rest : List CommandEntry), r.kind = 15 → r.heliostat = 255 →
        addressedTo s.sc.number r → es.length + 1 + rest.length ≤ 8 →
        exec (.commandFrame slot (es ++ r :: rest)) s =
          exec (.restart 255) (es.foldl (entryStep s.sc.number) heard)

/-! ## Frames -/

/-- R90, R91, R92, R108, R135, R202: the six checks, in their order; a dropped frame increases exactly one counter and does
nothing else, and a frame that is not checked changes nothing. That the row judges a frame as received is the model's
choice (log entry 13). -/
def Obligations.DroppedFramesAreCounted : Prop :=
  ∀ (s : State) (raw : RawFrame),
    let counted := fun c : Counters => Host.Outcome.next (φ := Fault) (ρ := Refusal)
      { s with bi := { s.bi with counters := c } }
    let c := s.bi.counters
    (s.accepts raw.slot raw.past = false → exec (.frameDropped raw) s = .next s) ∧
    (s.accepts raw.slot raw.past = true →
      (raw.stopsOk = false → exec (.frameDropped raw) s = counted { c with framing := min (c.framing + 1) 65535 }) ∧
      (raw.stopsOk = true → lengthHolds raw = false →
        exec (.frameDropped raw) s = counted { c with length := min (c.length + 1) 65535 }) ∧
      (raw.stopsOk = true → lengthHolds raw = true → crcHolds raw.bytes = false →
        exec (.frameDropped raw) s = counted { c with crc := min (c.crc + 1) 65535 }) ∧
      ∀ l k s0 s1 body, raw.stopsOk = true → lengthHolds raw = true → crcHolds raw.bytes = true →
        raw.bytes = l :: k :: s0 :: s1 :: body →
        ((half s0 s1).toNat ≠ raw.slot →
          exec (.frameDropped raw) s = counted { c with slot := min (c.slot + 1) 65535 }) ∧
        let allowed := (1 ≤ k.toNat ∧ k.toNat ≤ 3 ∧ raw.slot ≤ 7) ∨ (k.toNat = 4 ∧ 8 ≤ raw.slot ∧ raw.slot ≤ 399)
        ((half s0 s1).toNat = raw.slot → ¬allowed →
          exec (.frameDropped raw) s = counted { c with kind := min (c.kind + 1) 65535 }) ∧
        ((half s0 s1).toNat = raw.slot → allowed → contentFills k.toNat raw.bytes = false →
          exec (.frameDropped raw) s = counted { c with length := min (c.length + 1) 65535 }))

/-- R93, R94, R111, R119, R121, R122: a SUN frame replaces the sun record of its slot whole; a RECEIVER frame with one of the
four states replaces the receiver record and acts on two sources, and one with another state is only heard. -/
def Obligations.ReferenceFramesReplaceRecords : Prop :=
  (∀ (s : State) (slot : Fin 8) (s0 r : FrameVec), s.accepts slot.val = true →
    ∃ t, exec (.sunFrame slot s0 r) s = .next t ∧ Latched s t ∧
      t = { s with
        bi := heardBus s.bi
        au := t.au
        rs := { s.rs with sun := s.rs.sun.set slot (some
          { s0 := ⟨s0.e.toInt, s0.n.toInt, s0.u.toInt⟩, r := ⟨r.e.toInt, r.n.toInt, r.u.toInt⟩
            epoch := s.bi.epoch }) } }) ∧
  ∀ (s : State) (slot : Fin 8) (state : Byte) (zones : List ZoneReading), s.accepts slot.val = true →
    1 ≤ zones.length → zones.length ≤ 32 →
    ∃ t, exec (.receiverFrame slot state zones) s = .next t ∧ t.bi = heardBus s.bi ∧ Latched s t ∧
      (4 ≤ state.toNat → t = { s with bi := t.bi, au := t.au }) ∧
      (∀ st, rxStateOf state = some st →
        t.rs.receiver = some
          ⟨st, zones.map fun z => ⟨z.limit.toNat, z.measured.toNat⟩, s.bi.epoch⟩ ∧
        t.rs = { s.rs with receiver := t.rs.receiver } ∧
        t.src = { s.src with
          standbyRx := if st = .cold then true else if st = .trip then s.src.standbyRx else false
          rxTrip := decide (st = .trip) } ∧
        Recomputed s t ∧
        t = { s with rs := t.rs, src := t.src, helios := t.helios, bi := t.bi, au := t.au })

/-- R12, R142: the interest set holds the zones of the candidates of the heliostats that are present and IN, and a filtered
list, its zones ascending, holds of the frame's items the first for each zone of interest, without its want flag in
ISOLATED, if it then plans or wants; any other station state byte gives the empty list. -/
def Obligations.FilteredListFollowsItsSteps : Prop :=
  (∀ (s : State) (z : Nat), z ∈ s.interestZones ↔ z < 32 ∧ ∃ i : Fin 8, s.helios[i].cfg.present = true ∧
    s.helios[i].inService = true ∧ ∃ ap ∈ s.helios[i].cfg.candidates, s.cfg.zoneOf ap = some z) ∧
  (∀ s : State, s.interestZones.Pairwise (· < ·)) ∧
  ∀ (zones : List Nat) (state : Byte) (items : List FrameItem), zones.Pairwise (· < ·) →
    let kept := filteredList zones state items
    let shown := state.toNat = 1 ∨ state.toNat = 2 ∨ state.toNat = 3
    (¬shown → kept = []) ∧
    (kept.map PlanItem.zone).Pairwise (· < ·) ∧
    ∀ x : PlanItem, shown → (x ∈ kept ↔ x.zone ∈ zones ∧ (x.planned ≠ 0 ∨ x.want = true) ∧
      ∃ before item after, items = before ++ item :: after ∧ (∀ b ∈ before, b.zone ≠ item.zone) ∧
        x = { zone := item.zone.toNat, planned := item.planned.toNat, want := item.want && state.toNat != 2 })

/-- R141 to R148: a contribution frame of another station is filtered, and rewrites, invalidates or fills a way of its
set, or changes nothing; an evicted entry moves into residue, and a sum that saturates sets ZONE-SAT (R167). -/
def Obligations.ContributionFrameIsLookedUp : Prop :=
  ∀ (s : State) (sender : Nat) (state : Byte) (items : List FrameItem), s.accepts sender = true →
    8 ≤ sender → sender ≤ 399 → sender ≠ s.sc.number → items.length ≤ 8 →
    let kept := filteredList s.interest state items
    let i : Fin 32 := peerSetOf sender
    let st := s.pt.sets[i]
    ∃ t, exec (.contributionFrame sender state items) s = .next t ∧ t.bi = heardBus s.bi ∧ Latched s t ∧
      (∀ w, st.hit sender = some w → kept ≠ [] → t.fa = s.fa ∧
        t.pt = { s.pt with sets := s.pt.sets.set i (written st w sender kept) }) ∧
      (∀ w, st.hit sender = some w → kept = [] → t.fa = s.fa ∧
        t.pt = { s.pt with sets := s.pt.sets.set i { (st.setWay w none) with lru := w } }) ∧
      (st.hit sender = none → kept = [] → t.fa = s.fa ∧ t.pt = s.pt) ∧
      (st.hit sender = none → kept ≠ [] → ∃ w, t.pt.sets = s.pt.sets.set i (written st w sender kept) ∧
        (st.way0 = none ∧ st.way1 ≠ none → w = false) ∧ (st.way0 ≠ none ∧ st.way1 = none → w = true) ∧
        ((st.way0 = none ↔ st.way1 = none) → w = st.lru) ∧
        (st.way w = none → t.fa = s.fa ∧ t.pt.residue = s.pt.residue) ∧
        ∀ e, st.way w = some e →
          (t.fa.zoneSat = true ↔ s.fa.zoneSat = true ∨
            ∃ r ∈ s.pt.residue, plannedFor e.items r.zone ≠ 0 ∧ 65535 < r.value + plannedFor e.items r.zone) ∧
          t.pt.residue = s.pt.residue.map fun r =>
          if plannedFor e.items r.zone = 0 then r
          else { r with
            value := min (r.value + plannedFor e.items r.zone) 65535
            expiry := s.bi.epoch + BitVec.ofNat 32 s.cfg.peerAgeMax }) ∧
      t = { s with pt := t.pt, fa := { s.fa with zoneSat := t.fa.zoneSat }, bi := t.bi, au := t.au }

/-- R92, R94, R186, R191: a valid frame with the own number is heard, and takes to SILENT a station that sends, and one that
the epoch start of its own instant has left in LISTEN; otherwise a station in SYNCING leaves it to the next epoch start.
That the last paragraph of R191 goes before R186 there is log entry 52, that the syncing phase stands as it was on
entering SILENT log entry 54. -/
def Obligations.OwnNumberFrameSilences : Prop :=
  ∀ s : State, s.accepts s.sc.number = true → s.sc.number ≤ 399 → 8 ≤ s.sc.number →
    let leftNow := s.sc.state = .syncing ∧ s.sc.listen = true ∧ s.bi.epochNow = true
    ∃ t, exec .ownNumberFrame s = .next t ∧
      t.bi.heardOwnSlot = true ∧ t.bi.heardEpoch = true ∧ t.bi.quietSlots = 0 ∧ t.bi.busLost = false ∧
      (s.sc.state = .operating ∨ s.sc.state = .isolated ∨ s.sc.state = .night ∨ leftNow →
        t.sc = { s.sc with state := .silent, isoCount := 0 } ∧ t.src = { s.src with silent := true } ∧
        t.bi.tx.phase = .empty ∧ (s.bi.tx.phase ≠ .empty → ∀ i : Fin 8, t.helios[i].deferred = none) ∧
        t.bi.counters.aborts =
          (if s.bi.tx.phase = .sending then min (s.bi.counters.aborts + 1) 65535 else s.bi.counters.aborts)) ∧
      (s.sc.state = .syncing ∧ ¬leftNow ∨ s.sc.state = .silent →
        t = { s with bi := { heardBus s.bi with heardOwnSlot := true }, au := t.au }) ∧
      (∀ i : Fin 8, LevelFrame s.helios[i] t.helios[i]) ∧
      t = { s with sc := t.sc, src := t.src, helios := t.helios, bi := t.bi, fa := t.fa, irm := t.irm, au := t.au }

/-! ## Epochs, marks and slots -/

/-- R87, R93, R94, R98, R99, R112, R117, R120, R150, R151: an own wrap: the timer, the count, the window and the slot
that ends; once loaded, everything an epoch start makes, and before that the tick timer alone. The instant of a
RESTART's reset is none (R87; the row there is log entry 27). The tick of this instant is taken before the tests of this
instant, or left due with what this epoch start's sun evaluation found (R19, R20, R116; log entry 10). An own wrap that a mark of its instant came before does not come (R88;
log entry 46). The row acts at any other time, wherever the timer stands (log entry 37). -/
def Obligations.OwnWrapStartsAnEpoch : Prop :=
  ∀ (s : State) (b : Bool), s.inReset = false →
    (s.bi.timerInstant = .cut → exec (.epochStart b) s = .next s) ∧
    (s.bi.timerInstant ≠ .cut → ∃ t, exec (.epochStart b) s = .next t ∧
      t.bi.timer = 0 ∧ t.bi.epoch = s.bi.epoch + 1 ∧ t.bi.epochNow = true ∧ t.bi.markWindow = true ∧ t.bi.inOwnSlot = false ∧
      t.bi.slotBefore = some { number := s.bi.timer / 5000, past := some s.bi.tx.begunNow } ∧
      t.bi.counters.resyncs = s.bi.counters.resyncs ∧ t.acu.scheduled = true ∧
      (s.sc.state.loaded = false →
        t = { s with
          acu := { s.acu with scheduled := true }
          bi := { t.bi with quietSlots := s.bi.quietSlots, busLost := s.bi.busLost
                            heardEpoch := s.bi.heardEpoch, heardOwnSlot := s.bi.heardOwnSlot
                            collisionRun := s.bi.collisionRun } }) ∧
      (s.sc.state.loaded = true → EpochStarted s t b ∧
        (b = false → s.acu.tick = none → ∀ i : Fin 8, LevelFrame s.helios[i] t.helios[i])) ∧
      t = { s with
        helios := t.helios, src := t.src, bi := t.bi, rs := t.rs, pt := t.pt, irm := t.irm, fa := t.fa
        sc := t.sc, au := t.au, acu := t.acu })

/-- R185 to R189, R191: the tests of an epoch start, by an own wrap and by a mark outside the window alike, on the
values this epoch start leaves; a tick taken before them changes none of these values unless it finds the dawn (the
operand is log entry 10; the tests after such a dawn, which the hypotheses leave out, are log entry 56). Where the row
acts is log entries 37 and 46. -/
def Obligations.EpochStartTests : Prop :=
  ∀ (b : Bool) (c : Instr) (s t : State), s.running = true →
    (c = .epochStart b ∧ s.bi.timerInstant ≠ .cut) ∨ (c = .timeMark b ∧ s.bi.markWindow = false) → exec c s = .next t →
    b = false ∨ s.sc.state ≠ .night →
    let run := decide (3 ≤ t.bi.collisionRun)
    let count := if t.bi.busLost = true then min (s.sc.isoCount + 1) 16 else 0
    let iso := t.bi.busLost && decide (s.cfg.isoEpochs ≤ count)
    (s.sc.state = .syncing → t.sc.state =
      if s.bi.heardOwnSlot = true then .silent else if s.sc.listen = true then .operating else .syncing) ∧
    (s.sc.state = .syncing → s.bi.heardOwnSlot = false → s.sc.listen = false → t.sc.listen = true) ∧
    (s.sc.state = .operating → t.sc.state =
      if run then .silent else if iso then .isolated else if t.rs.nightCount = 8 then .night else .operating) ∧
    (s.sc.state = .night → t.sc.state = if run then .silent else if iso then .isolated else .night) ∧
    (s.sc.state = .operating ∨ s.sc.state = .night → t.sc.isoCount = if run || iso then 0 else count) ∧
    (s.sc.state = .isolated → t.sc.state =
      if run then .silent
      else if s.bi.heardEpoch = true then (if s.src.stowNight = true then .night else .operating)
      else .isolated) ∧
    (s.sc.state = .silent → t.sc.state = .silent)

/-- R88, R89, R98, R100: a time mark realigns within the window, and outside it cuts the epoch short and starts another,
in every station state, with all that an epoch start makes once loaded; the own frame, begun or only built, ends with
it, and its placements are emptied (placement P to 0: log entry 49); the window closes with no mark, the fourth time
setting MARK-LOST. The operand that settles the tick (R19 to R21), before the tests and then whole or left due with
what the epoch start's sun evaluation found (R116), is log entries 9 and 10. A mark that comes before the own wrap or the slot start due at its instant leaves the timer at 0, and
that wrap, slot start or tick does not come (R88, R19; the mark of the instant is log entry 46). -/
def Obligations.TimeMarkRealignsOrStarts : Prop :=
  ∀ s : State, s.inReset = false →
    (s.bi.markWindow = true → ∀ b, ∃ t, exec (.timeMark b) s = .next t ∧
      t = { s with au := t.au, bi := { s.bi with timer := 0, missedMarks := 0, markLost := false, markWindow := false } } ∧
      (s.running = true → Latched s t)) ∧
    (s.bi.markWindow = false → ∀ b, ∃ t, exec (.timeMark b) s = .next t ∧
      (s.bi.timerInstant ≠ .plain → t.bi.timerInstant = .cut ∧ (∀ b', exec (.epochStart b') t = .next t) ∧
        (∀ k, exec (.slotStart k) t = .next t) ∧ ∀ k stop, k ≠ 0 → exec (.aimTick k stop) t = .next t) ∧
      (s.bi.timerInstant = .plain → t.bi.timerInstant = .plain) ∧
      t.bi.timer = 0 ∧ t.bi.epoch = s.bi.epoch + 1 ∧ t.bi.epochNow = true ∧ t.bi.markWindow = false ∧ t.bi.missedMarks = 0 ∧
      t.bi.markLost = false ∧ t.bi.inOwnSlot = false ∧ t.bi.tx.phase = .empty ∧
      t.acu.scheduled = true ∧
      (s.running = true → EpochStarted s t b) ∧
      (s.sc.state.loaded = false → t = { s with
        helios := t.helios, fa := t.fa, au := t.au, acu := { s.acu with scheduled := true }
        bi := { t.bi with quietSlots := s.bi.quietSlots, busLost := s.bi.busLost, heardEpoch := s.bi.heardEpoch
                          heardOwnSlot := s.bi.heardOwnSlot, collisionRun := s.bi.collisionRun } }) ∧
      t.bi.slotBefore = some { number := s.bi.timer / 5000, past := some s.bi.tx.begunNow } ∧
      t.bi.counters.resyncs = min (s.bi.counters.resyncs + 1) 65535 ∧
      t.bi.counters.aborts =
        (if s.bi.tx.phase = .sending then min (s.bi.counters.aborts + 1) 65535 else s.bi.counters.aborts) ∧
      (s.bi.tx.phase ≠ .empty → t.fa.carried = [] ∧
        ∀ i : Fin 8, t.helios[i].deferred = none ∧ t.helios[i].placementP = 0) ∧
      (s.running = true → b = false → s.acu.tick = none → ∀ i : Fin 8, LevelFrame s.helios[i] t.helios[i]) ∧
      t = { s with
        helios := t.helios, src := t.src, bi := t.bi, rs := t.rs, pt := t.pt, irm := t.irm, fa := t.fa
        sc := t.sc, au := t.au, acu := t.acu }) ∧
    (s.bi.markWindow = true → ∃ t, exec .markWindowClose s = .next t ∧
      t = { s with au := t.au, bi := { s.bi with
        markWindow := false, missedMarks := min (s.bi.missedMarks + 1) 4
        markLost := s.bi.markLost || decide (4 ≤ s.bi.missedMarks + 1) } } ∧
      (s.running = true → Latched s t)) ∧
    (s.bi.missedMarks = 4 → ∃ t, exec .markLost s = .next t ∧
      t = { s with au := t.au, bi := { s.bi with markLost := true } } ∧ (s.running = true → Latched s t))

/-- R87, R93, R98, R136: a slot start counts a quiet slot, settles the own slot that ends, and opens the own slot; at a
count of 400 BUS-LOST is set. The instant of a RESTART's reset is no slot start (R87; the row there is log entry 27). A
slot start that a mark of its instant came before does not come (R88; log entry 46); the row acts at any other time (log
entry 37). -/
def Obligations.SlotStartCountsAndSettles : Prop :=
  ∀ s : State, s.running = true →
    let counts := s.bi.inOwnSlot && s.bi.mismatch && !s.dcu.slotMatch
    (s.bi.quietSlots = 400 → ∃ t, exec .busLost s = .next t ∧ Latched s t ∧
      t = { s with au := t.au, bi := { s.bi with busLost := true } }) ∧
    (s.bi.timerInstant = .cut → ∀ k, exec (.slotStart k) s = .next s) ∧
    ∀ k, s.bi.timerInstant ≠ .cut → 1 ≤ k → k ≤ 399 → ∃ t, exec (.slotStart k) s = .next t ∧ Latched s t ∧
      t = { s with
        au := t.au
        dcu := { s.dcu with slotMatch := if k = s.sc.number then s.dcu.patternHeld s.cfg else s.dcu.slotMatch }
        bi := { s.bi with
          timer := 5000 * k
          epochNow := false
          slotBefore := if s.bi.timer / 5000 = k then s.bi.slotBefore
            else some { number := s.bi.timer / 5000, past := none }
          quietSlots := min (s.bi.quietSlots + 1) 400
          busLost := s.bi.busLost || decide (400 ≤ s.bi.quietSlots + 1)
          inOwnSlot := decide (k = s.sc.number)
          mismatch := s.bi.mismatch && !s.bi.inOwnSlot
          collisionMark := s.bi.collisionMark || counts
          counters := { s.bi.counters with
            collisions := if counts then min (s.bi.counters.collisions + 1) 65535 else s.bi.counters.collisions } } }

/-- R97, R100, R101, R161, R187, R189, R191: the three entries, where the tests of R185 decide them: the station state
and the iso count, the source, the irradiance window, the cut of an own frame that the state entered does not allow, the
engaged levels, and nothing else. That the rows act only where their tests decide is log entry 1, that the window timer
which NIGHT stops stands at 0 log entry 45, and that an emptied placement has placement P 0 log entry 49. That the
syncing phase stands as it was is log entry 54. -/
def Obligations.EnteringStates : Prop :=
  ∀ s : State, s.running = true →
    let run := 3 ≤ s.bi.collisionRun
    let iso := s.bi.busLost = true ∧ s.cfg.isoEpochs ≤ min (s.sc.isoCount + 1) 16
    let silent := (s.sc.state = .syncing ∧ s.bi.heardOwnSlot = true) ∨
      ((s.sc.state = .operating ∨ s.sc.state = .isolated ∨ s.sc.state = .night) ∧ run)
    let isolated := (s.sc.state = .operating ∨ s.sc.state = .night) ∧ ¬run ∧ iso
    let night := s.sc.state = .operating ∧ ¬run ∧ ¬iso ∧ s.rs.nightCount = 8
    let leftNight := if s.sc.state = .night then { s.irm with running := true, timer := 0, pulses := 0 } else s.irm
    let engagedAnew := fun t : State => ∀ i : Fin 8, t.helios[i].engaged = s.helios[i].governing t.src true ∧
      LevelFrame s.helios[i] t.helios[i]
    (silent → ∃ t, exec .enterSilent s = .next t ∧
      t.sc = { s.sc with state := .silent, isoCount := 0 } ∧ t.src = { s.src with silent := true } ∧
      t.irm = leftNight ∧ RecomputedAfterCut s t true ∧ t.bi.tx.phase = .empty ∧ engagedAnew t ∧
      t = { s with sc := t.sc, src := t.src, helios := t.helios, bi := t.bi, au := t.au, irm := t.irm, fa := t.fa }) ∧
    (isolated → ∃ t, exec .enterIsolated s = .next t ∧
      t.sc = { s.sc with state := .isolated, isoCount := 0 } ∧ t.src = { s.src with iso := true } ∧
      t.irm = leftNight ∧ Recomputed s t ∧ engagedAnew t ∧ Latched s t ∧
      t = { s with sc := t.sc, src := t.src, helios := t.helios, au := t.au, irm := t.irm }) ∧
    (night → ∃ t, exec .enterNight s = .next t ∧
      t.sc = { s.sc with
        state := .night, isoCount := if s.bi.busLost = true then min (s.sc.isoCount + 1) 16 else 0 } ∧
      t.src = { s.src with stowNight := true } ∧ t.irm = { s.irm with running := false, timer := 0, pulses := 0 } ∧
      RecomputedAfterCut s t (decide (s.bi.epoch.toNat % 16 ≠ 0)) ∧ engagedAnew t ∧
      t = { s with sc := t.sc, src := t.src, helios := t.helios, bi := t.bi, au := t.au, irm := t.irm, fa := t.fa }) ∧
    (¬silent → exec .enterSilent s = .next s) ∧ (¬isolated → exec .enterIsolated s = .next s) ∧
    (¬night → exec .enterNight s = .next s)

/-- R112, R120, R121, R150, R151: a record past its age or at its expiry, and nothing else. -/
def Obligations.RecordsExpire : Prop :=
  ∀ s : State, s.running = true →
    (∀ (k : Fin 8) (r : SunRecord), s.rs.sun[k] = some r → s.cfg.sunHorizon < (s.bi.epoch - r.epoch).toNat →
      exec (.sunRecordExpiry k) s = .next { s with rs := { s.rs with sun := s.rs.sun.set k none } }) ∧
    (∀ r : RxRecord, s.rs.receiver = some r → s.cfg.rxStale < (s.bi.epoch - r.epoch).toNat →
      ∃ t, exec .rxStale s = .next t ∧ t.rs = { s.rs with receiver := none } ∧
        t.src = { s.src with standbyRx := true } ∧ Recomputed s t ∧ Latched s t ∧
        t = { s with rs := t.rs, src := t.src, helios := t.helios, au := t.au }) ∧
    (∀ (i : Fin 32) (w : Bool) (e : PeerEntry), s.pt.sets[i].way w = some e → s.cfg.peerAgeMax < e.age →
      exec (.peerAgeOut i w) s =
        .next { s with pt := { s.pt with sets := s.pt.sets.set i (s.pt.sets[i].setWay w none) } }) ∧
    (∀ z : Fin 32, exec (.residueExpiry z) s = .next { s with pt := { s.pt with
      residue := s.pt.residue.map fun r =>
        if r.zone = z.val ∧ r.value ≠ 0 ∧ r.expiry = s.bi.epoch then { r with value := 0 } else r } })

/-- R112, R120, R150: after every step no valid record is older than its limit, and none is valid before a load passes. -/
def Obligations.RecordsStayFresh : Prop :=
  ∀ s t : State, RecordsFresh s → RecordsClear s → step s = .next t → RecordsFresh t ∧ RecordsClear t

/-! ## The own frame -/

/-- R95, R105, R107, R162, R167, R172, R173, R197, R200: a build fills the transmit buffer with the bytes of the frame, marks
what it carries, and plans for each zone the P of the heliostats kept and placed on it, no more than its allowance;
in ISOLATED and NIGHT no heliostat's assignment, placement or counted P changes. That a ZONE-SAT set by the build's own
allocation is latched before the marks is the model's choice (log entry 33). -/
def Obligations.BuildCarriesAndPlans : Prop :=
  ∀ s : State, s.willBuild = true →
    ∃ t, exec .build s = .next t ∧
      t.bi.tx = { s.bi.tx with
        phase := .built, builtNow := true, micros := 0, bytes := t.frameBytes
        counters := if s.bi.report = some .counters then some s.bi.counters else none } ∧
      t.bi = { s.bi with
        tx := t.bi.tx
        outcomes := s.bi.outcomes.map fun o => { o with carried := true }
        lostSinceBuild := false
        reportCarried := s.bi.report.isSome } ∧
      t.au = { (s.au.latch s.conditions t.conditions) with carried := t.au.latches } ∧
      (s.sc.state = .operating → t.fa.carried.map PlanItem.zone = s.interest ∧
        (∀ i ∈ t.fa.carried, i.planned ≤ s.allowance i.zone ∧ i.planned = t.claimSum i.zone) ∧
        (t.fa.zoneSat = true ↔ s.fa.zoneSat = true ∨ ∃ z ∈ s.interest, 65535 < s.pt.exactSum z)) ∧
      (s.sc.state = .isolated → t.helios = s.helios ∧ t.fa = { s.fa with carried := s.interest.map fun z =>
        { zone := z, planned := s.published z, want := wantFor s.fa.plan z } }) ∧
      (s.sc.state = .night → t.helios = s.helios ∧ t.fa = { s.fa with carried := [] }) ∧
      (∀ i : Fin 8,
        (t.helios[i].assignment = s.helios[i].assignment ∨ t.helios[i].assignment = none) ∧
        t.helios[i] = { s.helios[i] with
          assignment := t.helios[i].assignment, deferred := t.helios[i].deferred
          placementP := t.helios[i].placementP, countedP := t.helios[i].countedP }) ∧
      t = { s with
        helios := t.helios, au := t.au, bi := t.bi, fa := { s.fa with carried := t.fa.carried, zoneSat := t.fa.zoneSat } }

/-- R123, R164 to R166: the allowance of a zone, from the receiver record, the plans and residue of the Peer Table, and what
the station last published: the headroom where that is not above the published value, else the published value and one
share of what the headroom holds beyond it. -/
def Obligations.AllowanceIsAFairShare : Prop :=
  ∀ (s : State) (z : Nat),
    let residue := (s.pt.residue.find? fun r => r.zone == z).elim 0 Residue.value
    let peers := min (((List.finRange 32).map fun i => wayPlan z s.pt.sets[i].way0 + wayPlan z s.pt.sets[i].way1).sum +
      residue) 65535
    let claimants := 1 + ((List.finRange 32).map fun i =>
      wayClaims z s.pt.sets[i].way0 + wayClaims z s.pt.sets[i].way1).sum
    let published := (s.fa.plan.find? fun x => x.zone == z).elim 0 PlanItem.planned
    let others := max peers (s.zoneMeasured z - published)
    let headroom := s.zoneLimit z - others
    (s.rs.receiver = none → s.zoneLimit z = 0 ∧ s.zoneMeasured z = 0) ∧
    (∀ r, s.rs.receiver = some r →
      (r.zones.length ≤ z → s.zoneLimit z = 0 ∧ s.zoneMeasured z = 0) ∧
      ∀ f, r.zones[z]? = some f → s.zoneMeasured z = f.measured ∧
        (r.state = .warming ∨ r.state = .operating → s.zoneLimit z = f.limit) ∧
        (r.state = .cold ∨ r.state = .trip → s.zoneLimit z = 0)) ∧
    s.peerFlux z = peers ∧ s.published z = published ∧ s.pt.claimants z = claimants ∧
    1 ≤ claimants ∧ claimants ≤ 65 ∧ s.othersFlux z = others ∧ s.headroom z = headroom ∧
    (headroom ≤ published → s.allowance z = headroom) ∧
    (published < headroom → s.allowance z = published + (headroom - published) / claimants ∧
      s.allowance z ≤ headroom)

/-- R168 to R172: the two passes of an allocation, the largest P first: an assigned heliostat is kept where its P fits the
allowance and the published value beside those kept before it; one not kept is placed on its first candidate whose
zone has room beside all that are kept and those placed before it, and otherwise wants the zone of its first
candidate; an ineligible heliostat is on standby. That placement P is 0 with nothing deferred is the model's choice (log
entry 49), and so is that a heliostat with P 0 fits a zone with allowance 0 (log entry 57). -/
def Obligations.KeepAndPlacePasses : Prop :=
  ∀ s : State, s.willBuild = true → s.sc.state = .operating →
    ∃ t, exec .build s = .next t ∧
      (∀ i : Fin 8, s.helios[i].eligible = false →
        t.helios[i] = { s.helios[i] with assignment := none, deferred := none, placementP := 0 }) ∧
      (∀ i : Fin 8, s.helios[i].eligible = true →
        let h := s.helios[i]
        let keeps := ∃ z ∈ s.interest, zoneOfField s.cfg h.assignment = some z ∧
          sumOfP s (fun j => takenBefore s i j && keptOn t z j) + h.p ≤ min (s.allowance z) (s.published z)
        let fits := fun ap : Nat => match s.cfg.zoneOf ap with
          | none => false
          | some z => s.interest.contains z &&
              sumOfP s (keptOn t z) + sumOfP s (fun j => takenBefore s i j && placedOn t z j) + h.p ≤ s.allowance z
        (keeps → t.helios[i] = { h with deferred := none, placementP := 0, countedP := h.p }) ∧
        (¬keeps → t.helios[i] = { h with
          assignment := none
          deferred := h.cfg.candidates.find? fits
          placementP := if (h.cfg.candidates.find? fits).isSome then h.p else 0 })) ∧
      ∀ z ∈ s.interest, wantFor t.fa.carried z = true ↔ ∃ i : Fin 8, s.helios[i].eligible = true ∧
        t.helios[i].assignment = none ∧ t.helios[i].deferred = none ∧
        zoneOfField s.cfg s.helios[i].cfg.candidates.head? = some z

/-- R91, R95, R201, R202: the frame that BUILD puts into the transmit buffer, received in the own slot, passes every check and
reads back as the station's state and its contribution list. -/
def Obligations.BuiltFrameReadsBack : Prop :=
  ∀ s : State, s.willBuild = true → 8 ≤ s.sc.number → s.sc.number ≤ 399 → s.interest.length ≤ 8 →
    s.bi.outcomes.length ≤ 4 → ∃ t, exec .build s = .next t ∧
      judge { slot := s.sc.number, past := none, stopsOk := true, count := t.bi.tx.bytes.length, bytes := t.bi.tx.bytes } =
        .valid (.contribution (BitVec.ofNat 8 s.sc.state.code) (t.fa.carried.map fun i =>
          { zone := BitVec.ofNat 8 i.zone, planned := BitVec.ofNat 16 i.planned, want := i.want }))

/-- R17, R196, R200 to R204: what the frame that BUILD puts into the transmit buffer carries, field by field at the offsets of
R202, and after them the report of the pending request, field by field at the offsets of R203. The entries, the plans
and the posture are those the build leaves (log entry 33). -/
def Obligations.FrameCarriesItsFields : Prop :=
  ∀ s : State, s.willBuild = true → ∃ t, exec .build s = .next t ∧
    let b := t.bi.tx.bytes
    let byte := fun o : Nat => (b.getD o 0).toNat
    let e := t.fa.carried.length
    let o := s.bi.outcomes.length
    let r := 26 + 4 * e + 3 * o
    let size := match s.bi.report with
      | none => 0
      | some (.helio _) => 47
      | some .counters => 20
    b.length = r + size + 2 ∧ b.take 2 = [BitVec.ofNat 8 b.length, 4] ∧
    halfAt b 2 = BitVec.ofNat 16 s.sc.number ∧
    byte 4 = 1 + [StationState.operating, .isolated, .night].idxOf s.sc.state ∧
    (∀ k : Fin 16, (halfAt b 5).getLsbD k = [
      t.bi.busLost, t.bi.markLost, decide (t.sc.state = .isolated), t.src.sun, t.rs.receiver.isNone, t.dcu.active,
      decide (∃ i : Fin 8, t.helios[i].engaged = .stow),
      decide ((∃ i : Fin 8, t.helios[i].usable = true) ∧
        ∀ i : Fin 8, t.helios[i].usable = true → t.helios[i].engaged = .stow ∧ t.helios[i].posture = .onTarget),
      decide (∃ i : Fin 8, t.helios[i].fault ≠ .none), t.irm.clouded, t.fa.zoneSat,
      decide (∃ i : Fin 8, t.helios[i].limit = true), t.sc.por].getD k false) ∧
    halfAt b 7 = t.au.latches ∧ halfAt b 9 = BitVec.ofNat 16 s.irm.m ∧ halfAt b 11 = BitVec.ofNat 16 s.irm.h ∧
    (∀ i : Fin 8, let h := t.helios[i]
      byte (13 + i) / 16 = [Level.none, .stow, .defocus, .hold, .standby, .track].idxOf h.engaged ∧
      byte (13 + i) % 16 =
        (if h.cfg.present = false then 0 else if h.inService = false then 1 else if h.fault ≠ .none then 2
        else if h.homed = false then 3
        else if h.az.drive = .rest ∧ h.az.position = h.az.target ∧ h.el.drive = .rest ∧ h.el.position = h.el.target then 5
        else 4) ∧
      (b.getD 21 0).getLsbD i = decide (h.fault ≠ .none)) ∧
    b.getD 22 0 = BitVec.ofNat 8 e ∧
    (∀ (k : Nat) (x : PlanItem), t.fa.carried[k]? = some x → b.getD (23 + 4 * k) 0 = BitVec.ofNat 8 x.zone ∧
      halfAt b (24 + 4 * k) = BitVec.ofNat 16 x.planned ∧ byte (26 + 4 * k) = x.want.toNat) ∧
    b.getD (23 + 4 * e) 0 = BitVec.ofNat 8 o ∧
    (∀ (k : Nat) (x : OutcomeRec), s.bi.outcomes[k]? = some x →
      b.getD (24 + 4 * e + 3 * k) 0 = x.kind ∧ b.getD (25 + 4 * e + 3 * k) 0 = x.heliostat ∧
      byte (26 + 4 * e + 3 * k) = [Result.done, .busy, .range, .state, .kind].idxOf x.result) ∧
    byte (24 + 4 * e + 3 * o) = s.bi.outcomesLost.toNat ∧
    (s.bi.report = none → byte (25 + 4 * e + 3 * o) = 0) ∧
    (s.bi.report = some .counters → byte (25 + 4 * e + 3 * o) = 2 ∧
      let c := s.bi.counters
      ∀ k : Fin 10, halfAt b (r + 2 * k) = BitVec.ofNat 16 ([c.crc, c.framing, c.length, c.slot, c.kind, c.collisions,
        c.resyncs, c.aborts, c.refused, c.indexResyncs].getD k 0)) ∧
    (∀ i, s.bi.report = some (.helio i) → byte (25 + 4 * e + 3 * o) = 1 ∧
      let h := t.helios[i]
      byte r = i ∧ byte (r + 1) = h.inService.toNat ∧ byte (r + 2) = h.homed.toNat ∧
      byte (r + 3) = [HelioFault.none, .slip, .homefail, .drive].idxOf h.fault ∧ byte (r + 4) = byte (13 + i) ∧
      b.getD (r + 5) 0 = h.assignment.elim 255 (BitVec.ofNat 8) ∧
      b.getD (r + 6) 0 = h.deferred.elim 255 (BitVec.ofNat 8) ∧
      halfAt b (r + 7) = BitVec.ofNat 16 h.p ∧ halfAt b (r + 9) = BitVec.ofNat 16 h.countedP ∧
      halfAt b (r + 11) = BitVec.ofNat 16 h.c ∧ halfAt b (r + 13) = BitVec.ofNat 16 h.lastAz ∧
      halfAt b (r + 15) = BitVec.ofInt 16 h.lastEl ∧ halfAt b (r + 17) = BitVec.ofInt 16 h.dAz ∧
      halfAt b (r + 19) = BitVec.ofInt 16 h.dEl ∧ byte (r + 21) = h.limit.toNat + 2 * h.geom.toNat ∧
      wordAtByte b (r + 22) = BitVec.ofInt 32 h.az.position ∧ wordAtByte b (r + 26) = BitVec.ofInt 32 h.az.target ∧
      wordAtByte b (r + 30) = BitVec.ofInt 32 h.el.position ∧ wordAtByte b (r + 34) = BitVec.ofInt 32 h.el.target ∧
      byte (r + 38) = h.hold.isSome.toNat ∧
      wordAtByte b (r + 39) = BitVec.ofInt 32 (h.hold.elim 0 Steps.az) ∧
      wordAtByte b (r + 43) = BitVec.ofInt 32 (h.hold.elim 0 Steps.el))

/-- R90, R95, R97, R101, R175: 100 µs into the own slot the built frame begins, or is withheld with no counter changed; an
echo mismatch aborts the frame on the line, from which on the receiver counts its idle time where that frame is the one in
reception; the frame of another user is read on. Queue, request and published
plan stay, their carried marks gone. That the emptied placement P is 0 is the model's choice (log entry 49). -/
def Obligations.FrameBeginsOrIsCut : Prop :=
  ∀ s : State, s.running = true →
    let discarded : BusInterface := { s.bi with
      outcomes := s.bi.outcomes.map fun o => { o with carried := false }
      reportCarried := false
      tx := { s.bi.tx with phase := .empty, bytes := [], micros := 0, counters := none } }
    (s.bi.tx.phase = .built → s.frameAllowed = true → s.dcu.generating = false → exec .frameBegin s =
      .next { s with bi := { s.bi with tx := { s.bi.tx with phase := .sending, micros := 0, begunNow := true } } }) ∧
    (s.bi.tx.phase = .built → s.frameAllowed = false ∨ s.dcu.generating = true → ∃ t, exec .frameBegin s = .next t ∧
      t.bi = discarded ∧ t.fa = { s.fa with carried := [] } ∧ t.au = { s.au with carried := 0 } ∧
      (∀ i : Fin 8, t.helios[i] = { s.helios[i] with deferred := none, placementP := 0 }) ∧
      t = { s with helios := t.helios, fa := t.fa, au := t.au, bi := t.bi }) ∧
    (s.bi.tx.phase = .sending → ∃ t, exec .echoMismatch s = .next t ∧
      t.bi = { discarded with
        mismatch := true
        counters := { s.bi.counters with aborts := min (s.bi.counters.aborts + 1) 65535 }
        rx := if s.bi.rx.own = true then { s.bi.rx with char := none, idle := 0 } else s.bi.rx } ∧
      t.fa = { s.fa with carried := [] } ∧ t.au = { s.au with carried := 0 } ∧
      (∀ i : Fin 8, t.helios[i] = { s.helios[i] with deferred := none, placementP := 0 }) ∧
      t = { s with helios := t.helios, fa := t.fa, au := t.au, bi := t.bi })

/-- R96, R105, R107, R174, R197: transmit completion. That the placement P becomes 0 is the model's choice (log entry 49). -/
def Obligations.CompletionPublishes : Prop :=
  ∀ s : State, s.running = true → s.bi.tx.phase = .sending →
    ∃ t, exec .transmitCompletion s = .next t ∧
      t.bi = { s.bi with
        outcomes := s.bi.outcomes.filter fun o => !o.carried
        outcomesLost := s.bi.lostSinceBuild
        report := if s.bi.reportCarried = true then none else s.bi.report
        reportCarried := false
        counters := match s.bi.tx.counters with
          | none => s.bi.counters
          | some sent => s.bi.counters.reduce sent
        tx := { s.bi.tx with phase := .empty, bytes := [], micros := 0, counters := none } } ∧
      t.fa = { s.fa with
        carried := []
        plan := s.interest.map fun z =>
          { zone := z, planned := plannedFor s.fa.carried z, want := wantFor s.fa.carried z } } ∧
      t.au = { s.au with published := s.au.published ||| (s.au.latches &&& s.au.carried), carried := 0 } ∧
      (∀ i : Fin 8,
        (s.helios[i].deferred = none → t.helios[i] = s.helios[i]) ∧
        ∀ ap, s.helios[i].deferred = some ap → t.helios[i] = { s.helios[i] with
          assignment := some ap, countedP := s.helios[i].placementP, deferred := none, placementP := 0 }) ∧
      t = { s with helios := t.helios, fa := t.fa, au := t.au, bi := t.bi }

/-- R177: for every zone the counted P of the heliostats assigned to it never exceeds what the station last published,
after every step. -/
def Obligations.PublishedFluxIsNeverExceeded : Prop :=
  ∀ s t : State, FluxOk s → step s = .next t → FluxOk t

/-! ## Aiming -/

/-- The scope file's section 5.2 and R24, R113 to R115: the integer square root is exact; and a sun evaluation selects the
valid record of the lowest-numbered slot, extrapolates it, each correction rounded before it is added, and scales it to
a unit vector; the sun is lost where no record is valid or the extrapolated vector is zero. -/
def Obligations.RootsAndSunVectorsAreExact : Prop :=
  (∀ n : Nat, RootOf n (isqrt n)) ∧
  ∀ (s : State) (offset : Nat),
    ((∀ k : Fin 8, s.rs.sun[k] = none) → s.evalSun offset = none) ∧
    ∀ (k : Fin 8) (r : SunRecord), s.rs.sun[k] = some r → (∀ j : Fin 8, j < k → s.rs.sun[j] = none) →
      let ms : Int := 2000 * (s.bi.epoch - r.epoch).toNat + offset
      ∀ w : Vec3, RoundsTo (r.r.e * ms) 1024000 (w.e - r.s0.e) → RoundsTo (r.r.n * ms) 1024000 (w.n - r.s0.n) →
        RoundsTo (r.r.u * ms) 1024000 (w.u - r.s0.u) →
        (w = ⟨0, 0, 0⟩ → s.evalSun offset = none) ∧ (w ≠ ⟨0, 0, 0⟩ → ∃ v, s.evalSun offset = some v ∧ ScalesTo w v)

/-- R27, R28: the elevation is the true angle rounded to the nearest angle unit, ties away from zero, and the azimuth is the
true angle clockwise from north, rounded to the nearest with the halfway value going to the larger, a whole turn to 0. -/
def Obligations.AnglesAreRounded : Prop :=
  (∀ (u : Int) (h : Nat), 0 < h →
    let x : ℝ := Real.arctan ((u : ℝ) / (h : ℝ)) * 32768 / Real.pi
    elevationOf u h = if 0 ≤ u then ⌊x + 1 / 2⌋ else -⌊-x + 1 / 2⌋) ∧
  ∀ (e n : Int) (x r : ℝ), 0 < r → 0 ≤ x → x < 65536 →
    (e : ℝ) = r * Real.sin (x * Real.pi / 32768) → (n : ℝ) = r * Real.cos (x * Real.pi / 32768) →
    ((azimuthOf e n : Nat) : Int) = ⌊x + 1 / 2⌋ % 65536

/-- R19 to R23, R113, R116, R118, R190: a tick withdraws SUN and takes its turns, or as many as come before a pause, and
a tick in progress goes on (the pause is log entry 9); a tick that finds the sun lost takes none and sets SUN; in NIGHT
a tick computes nothing below DAWN_SU and ends the night at it. The tick of an epoch start is taken once, with what the
epoch start's own evaluation found (R116), and a tick due where a mark of its instant has started an epoch is not taken
(R19; log entries 37 and 46). The syncing phase at the
dawn is log entry 54. -/
def Obligations.AimTickTakesTheTurns : Prop :=
  ∀ (s : State) (offset stop : Nat), s.running = true → EngagedOk s →
    let due := if offset = 0 then none else s.acu.due
    let sun := if offset = 0 then s.acu.due.getD (s.evalSun 0) else s.evalSun offset
    let found := { s.src with sun := false }
    let stands := if offset = 0 then s.acu.due.isSome = true else s.bi.timerInstant ≠ .cut
    (∀ k, s.acu.tick = some k → ∃ t, exec (.aimTick offset stop) s = .next t ∧
      (∀ i : Fin 8, t.helios[i] =
        if k.turn ≤ i.val ∧ i.val < stop then s.helios[i].turn s.cfg s.irm.h k.sun else s.helios[i]) ∧
      t.acu = { s.acu with tick := if 8 ≤ max k.turn stop then none else some { k with turn := max k.turn stop } } ∧
      t = { s with helios := t.helios, au := t.au, acu := t.acu }) ∧
    (s.acu.tick = none → s.acu.scheduled = false → exec (.aimTick offset stop) s = .next s) ∧
    (s.acu.tick = none → ¬stands → exec (.aimTick offset stop) s = .next s) ∧
    (s.acu.tick = none → s.acu.scheduled = true → s.cfg.tickAt offset = true → stands →
      (∀ v, sun = some v → s.sc.state ≠ .night →
        ∃ t, exec (.aimTick offset stop) s = .next t ∧
          (∀ i : Fin 8, let h := s.helios[i].reengage found true
            t.helios[i] = if i.val < stop then h.turn s.cfg s.irm.h v else h) ∧
          t.acu = { due := due, scheduled := true, tick := if 8 ≤ stop then none else some { sun := v, turn := stop, micros := 0 } } ∧
          t = { s with src := found, helios := t.helios, au := t.au, acu := t.acu }) ∧
      (sun = none →
        ∃ t, exec (.aimTick offset stop) s = .next t ∧ t.src = { s.src with sun := true } ∧ Recomputed s t ∧
          Latched s t ∧
          t = { s with helios := t.helios, src := t.src, au := t.au, acu := { s.acu with due := due } }) ∧
      (∀ v, sun = some v → s.sc.state = .night → v.u < s.cfg.dawnSu →
        ∃ t, exec (.aimTick offset stop) s = .next t ∧ t.src = found ∧ Recomputed s t ∧ Latched s t ∧
          t = { s with src := t.src, helios := t.helios, au := t.au, acu := { s.acu with due := due } }) ∧
      (∀ v, sun = some v → s.sc.state = .night → s.cfg.dawnSu ≤ v.u →
        ∃ t, exec (.aimTick offset stop) s = .next t ∧ t.sc = { s.sc with state := .operating } ∧
          t.src = { found with stowNight := false } ∧ t.rs = { s.rs with nightCount := 0 } ∧
          t.irm = { s.irm with running := true, timer := 0, pulses := 0 } ∧
          (s.cfg.dawnRehome = true → ∀ i : Fin 8, s.helios[i].cfg.present = true → s.helios[i].homing = none →
            s.helios[i].inService = true → s.helios[i].drvflt = false →
            t.helios[i].homed = false ∧ t.helios[i].fault = .none ∧ t.helios[i].homing = some .el) ∧
          t = { s with
            sc := t.sc, src := t.src, rs := t.rs, irm := t.irm, helios := t.helios, au := t.au, acu := t.acu }))

/-- R22, R24 to R26, R29 to R32, R34 to R41: what a turn computes. Nothing for a heliostat that is absent, OUT, faulted or
not homed. P and c from the normal toward the first candidate, whatever the level. At TRACK and STANDBY, with the normal
toward the point aimed at: the angles, the elevation target rounded and clamped, the azimuth target chosen among the
three windings; both lie within the soft limits; a zero normal writes no target. No target at the other levels. -/
def Obligations.TurnComputesItsValues : Prop :=
  ∀ (h : Helio) (cfg : StationConfig) (irr : Nat) (sun : Vec3),
    let t := h.turn cfg irr sun
    (h.computed = false → t = h) ∧
    (∀ (ap : Nat) (a : AimPoint) (n : Vec3), h.computed = true → h.cfg.candidates.head? = some ap →
      cfg.aims[ap]? = some a → IsNormal sun h.cfg.pivot a.pos n →
      ∃ m, RootOf (squares n) m ∧ t.c = min m 32767 ∧ t.p = irr * h.cfg.area * t.c * h.cfg.delivery / 3355443200 ∧
        (n = ⟨0, 0, 0⟩ → t.geom = true)) ∧
    (h.engaged ≠ .track → h.engaged ≠ .standby → t = { h with p := t.p, c := t.c, geom := t.geom }) ∧
    (∀ (point n : Vec3), h.computed = true →
      (h.engaged = .standby ∨ (h.engaged = .track ∧ h.assignment = none)) ∧ point = cfg.standby ∨
        (h.engaged = .track ∧ ∃ ap a, h.assignment = some ap ∧ cfg.aims[ap]? = some a ∧ point = a.pos) →
      IsNormal sun h.cfg.pivot point n →
      (n = ⟨0, 0, 0⟩ → t = { h with p := t.p, c := t.c, geom := true }) ∧
      (n ≠ ⟨0, 0, 0⟩ → ∃ (flat az : Nat) (el raw c0 cm cp target d0 : Int) (clamped : Bool),
        RootOf (n.e * n.e + n.n * n.n).toNat flat ∧
        (0 < flat → az = azimuthOf n.e n.n ∧ el = elevationOf n.u flat) ∧
        (flat = 0 → az = h.lastAz ∧ el = if 0 < n.u then 16384 else -16384) ∧
        RoundsTo ((el + h.dEl - h.el.prm.zero) * h.el.prm.spt) 65536 raw ∧
        -32768 ≤ d0 ∧ d0 ≤ 32767 ∧ (d0 - (az + h.dAz - h.az.prm.zero)) % 65536 = 0 ∧
        RoundsTo (d0 * h.az.prm.spt) 65536 c0 ∧ RoundsTo ((d0 - 65536) * h.az.prm.spt) 65536 cm ∧
        RoundsTo ((d0 + 65536) * h.az.prm.spt) 65536 cp ∧
        AzimuthChosen h.az.prm h.az.target [c0, cm, cp] target clamped ∧
        t = { h with
          p := t.p, c := t.c, geom := t.geom, lastAz := az, lastEl := el
          limit := h.limit || clamped || decide (raw < h.el.prm.softMin) || decide (h.el.prm.softMax < raw)
          az := h.az.writeTarget target
          el := h.el.writeTarget (if raw < h.el.prm.softMin then h.el.prm.softMin else min raw h.el.prm.softMax) } ∧
        (h.az.prm.softMin ≤ h.az.prm.softMax → h.az.prm.softMin ≤ t.az.target ∧ t.az.target ≤ h.az.prm.softMax) ∧
        (h.el.prm.softMin ≤ h.el.prm.softMax → h.el.prm.softMin ≤ t.el.target ∧ t.el.target ≤ h.el.prm.softMax))) ∧
    (∀ a a' : Option Nat, ∀ l l' : Level,
      (({ h with assignment := a, engaged := l } : Helio).turn cfg irr sun).p =
        (({ h with assignment := a', engaged := l' } : Helio).turn cfg irr sun).p)

/-! ## Axis drives -/

/-- R44, R46, R49, R50, R52, R55, R57: a counted step in each drive state: the take-up, the position, the decision, and
the reload of the counter from the period as it then stands; a counter that stands above 1 has not reached 0, and
nothing happens. The period in force for a step is read as the period register's (log entry 12), a position beyond 32
bits is free (log entry 11). That the row acts where the counter is 1 or below, the held value of a step that is due,
and changes nothing above is the model's choice (log entries 29 and 37). -/
def Obligations.AxisStepCounts : Prop :=
  ∀ (s : State) (i : Fin 8) (a : AxisId), s.inReset = false → EngagedOk s → s.helios[i].cfg.present = true →
    let h := s.helios[i]
    let x := h.axis a
    (1 < x.counter → exec (.axisStep i a) s = .next s) ∧
    (x.period ≠ 0 → x.counter ≤ 1 →
    let owed := if x.dir = x.lastDir then x.takeUp else x.prm.backlash
    let pos := if owed = 0 then fitPosition (if x.dir = .pos then x.position + 1 else x.position - 1) else x.position
    let left := if x.dir = .pos then x.target - pos else pos - x.target
    let counted := { x with
      position := pos, lastDir := x.dir, takeUp := owed - 1
      phaseCount := if x.homingPhase then x.phaseCount + 1 else x.phaseCount }
    let goesOn := fun (d : DriveState) (p : Nat) => h.setAxis a { counted with drive := d, period := p, counter := p }
    let start := x.prm.startPeriod
    let dec := x.prm.rampDec
    ∃ t, exec (.axisStep i a) s = .next t ∧ OthersKept s t i ∧ t = { s with helios := t.helios, au := t.au } ∧
      (x.drive = .trackMode → t.helios[i] = if pos = x.target then goesOn .rest 0 else goesOn .trackMode x.period) ∧
      (x.drive = .slewAccel ∨ x.drive = .slewDecel → t.helios[i] =
        if pos = x.target then goesOn .rest 0
        else if dec = 0 then goesOn .slewAccel start
        else if (left - 1) * dec < (start : Int) - x.period then goesOn .slewDecel (min (x.period + dec) start)
        else goesOn .slewAccel (max (x.period - dec) x.prm.slewPeriod)) ∧
      (x.drive = .reversing → x.period < start → t.helios[i] = goesOn .reversing (min (x.period + dec) start)) ∧
      (x.drive = .reversing → start ≤ x.period → (t.helios[i].axis a).position = pos ∧
        (t.helios[i].axis a).drive =
          if pos = x.target then .rest
          else if (x.prm.fineWindow : Int) < |x.target - pos| then .slewAccel else .trackMode) ∧
      (x.drive = .homeSearch → x.phaseCount + 1 < x.prm.homeMax → t.helios[i] = goesOn .homeSearch x.period) ∧
      (x.drive = .homeBackoff → x.index = true → x.phaseCount + 1 < x.prm.homeMax →
        t.helios[i] = goesOn .homeBackoff x.period) ∧
      (x.drive = .homeBackoff → x.index = false → 0 < x.prm.homeMax → t.helios[i] = h.setAxis a { counted with
        drive := .homeSearch, dir := .neg, phaseCount := 0, period := x.prm.homePeriod
        counter := x.prm.homePeriod }) ∧
      (x.drive = .homeSearch ∨ x.drive = .homeBackoff ∧ x.index = true → x.prm.homeMax ≤ x.phaseCount + 1 →
        h.fault = .none → t.helios[i].fault = .homefail ∧ t.helios[i].homed = false ∧ t.helios[i].homing = none ∧
        (t.helios[i].axis a).drive = .rest ∧ (t.helios[i].axis a).position = pos ∧
        (t.helios[i].axis a).target = pos ∧ (t.helios[i].axis a).period = 0))

/-- R45 to R49, R51, R52, R55, R56, R59: what a written target does in each drive state: a move starts from REST, goes on,
speeds up, or reverses, at once where the axis can stop; what a stop at once does: a pulse in progress ends and its step
counts, the counter then at 0, and with STEP inactive the counter holds and nothing counts; what a homing begins with, by
the level of its index input; and a TRACK-MODE move whose take-up is spent arrives after as many counted steps as
remain. -/
def Obligations.WrittenTargetsMoveAndArrive : Prop :=
  (∀ (x : Axis) (target : Int),
    let y := x.writeTarget target
    let z := { x with target := target }
    let left := if x.dir = .pos then target - x.position else x.position - target
    let stops := x.prm.startPeriod ≤ x.period ∧ x.stepActive = false
    (x.drive = .rest → y = moveStarted z) ∧
    (x.drive = .trackMode → 1 ≤ left → left ≤ x.prm.fineWindow → y = z) ∧
    (x.drive = .trackMode → 1 ≤ left → x.prm.fineWindow < left →
      y = { z with drive := .slewAccel, period := x.prm.startPeriod }) ∧
    (x.drive = .slewAccel ∨ x.drive = .slewDecel → 1 ≤ left → y = z) ∧
    (x.drive = .trackMode ∨ x.drive = .slewAccel ∨ x.drive = .slewDecel → left ≤ 0 →
      y = if stops then moveStarted { z with period := 0, drive := .rest } else { z with drive := .reversing }) ∧
    (x.drive = .reversing ∨ x.drive = .homeBackoff ∨ x.drive = .homeSearch → y = z)) ∧
  (∀ x : Axis,
    let pulse := x.period ≠ 0 ∧ 1 ≤ x.counter ∧ x.counter ≤ x.prm.pulseWidth
    let owed := if x.dir = x.lastDir then x.takeUp else x.prm.backlash
    let stopped := if pulse then { x with
        period := 0, counter := 0, lastDir := x.dir, takeUp := owed - 1
        position := if owed = 0 then fitPosition (if x.dir = .pos then x.position + 1 else x.position - 1) else x.position
        phaseCount :=
          if x.drive = .homeBackoff ∨ x.drive = .homeSearch then x.phaseCount + 1 else x.phaseCount }
      else { x with period := 0 }
    x.stopNow = stopped ∧ x.halt = { stopped with drive := .rest, target := stopped.position } ∧
    x.beginHoming = { x with
      drive := if x.index = true then .homeBackoff else .homeSearch
      dir := if x.index = true then .pos else .neg
      phaseCount := 0, period := x.prm.homePeriod
      counter := if x.counter = 0 then x.prm.homePeriod else x.counter }) ∧
  ∀ (n : Nat) (x : Axis), x.drive = .trackMode → x.dir = x.lastDir → x.takeUp = 0 → x.period ≠ 0 →
    x.remaining = (n : Int) + 1 → -2147483648 ≤ x.position → x.position ≤ 2147483647 →
    -2147483648 ≤ x.target → x.target ≤ 2147483647 →
    let y := (fun z : Axis => z.stepAndDecide.reload)^[n + 1] x
    y.drive = .rest ∧ y.position = x.target ∧ y.period = 0 ∧
      ∀ m, m ≤ n → ((fun z : Axis => z.stepAndDecide.reload)^[m] x).drive = .trackMode

/-- R53, R56, R206: a rising index edge re-syncs within SLIP_TOL, detects SLIP beyond it, and in HOME-SEARCH completes the
homing of its axis; a fall and an edge that is not checked only show. That the row carries the level, and that a level
repeated is no edge, is the model's choice (log entry 38). That the last step direction is negative after a homing whose
edge comes before any counted step of the search is read from the closing words of R56 (log entry 41). That placement P
is 0 under the SLIP fault is the model's choice (log entry 49). -/
def Obligations.IndexEdgeCases : Prop :=
  ∀ (s : State) (i : Fin 8) (a : AxisId), s.inReset = false → EngagedOk s → s.helios[i].cfg.present = true →
    let h := s.helios[i]
    let x := h.axis a
    let up := h.setAxis a { x with index := true }
    let off := (x.position - x.prm.indexPos).natAbs
    let found : Axis := { x.stopNow with
      index := true, position := x.prm.indexPos, target := x.prm.indexPos, drive := .rest, lastDir := .neg }
    (exec (.indexEdge i a pinLow) s =
      .next { s with helios := s.helios.set i (h.setAxis a { x with index := false }) }) ∧
    (x.index = true → exec (.indexEdge i a pinHigh) s = .next s) ∧
    (x.index = false →
    (x.edgeChecked = true → off ≤ x.prm.slipTol → ∃ t, exec (.indexEdge i a pinHigh) s = .next t ∧ OthersKept s t i ∧
      t.helios[i] = up.setAxis a (up.axis a).resync ∧ (t.helios[i].axis a).position = x.prm.indexPos ∧
      t.bi = { s.bi with counters := { s.bi.counters with
        indexResyncs := min (s.bi.counters.indexResyncs + 1) 65535 } } ∧
      t = { s with helios := t.helios, bi := t.bi, au := t.au }) ∧
    (x.edgeChecked = true → x.prm.slipTol < off → h.fault = .none →
      ∃ t, exec (.indexEdge i a pinHigh) s = .next t ∧ OthersKept s t i ∧
        t.helios[i] = faulted up .slip ∧ t = { s with helios := t.helios, au := t.au }) ∧
    (x.edgeChecked = false → x.drive ≠ .homeSearch →
      exec (.indexEdge i a pinHigh) s = .next { s with helios := s.helios.set i up }) ∧
    (x.drive = .homeSearch → a = .el → h.homed = false →
      ∃ t, exec (.indexEdge i a pinHigh) s = .next t ∧ OthersKept s t i ∧
        t.helios[i] = { h with el := found, az := h.az.beginHoming, homing := some .az } ∧
        t = { s with helios := t.helios, au := t.au }) ∧
    (x.drive = .homeSearch → a = .az → h.usable = true →
      ∃ t, exec (.indexEdge i a pinHigh) s = .next t ∧ OthersKept s t i ∧
        t.helios[i] =
          ({ h with az := found, homing := none, homed := true } : Helio).reengage s.src s.sc.state.loaded ∧
        t.helios[i].homed = true ∧ t.helios[i].az.position = x.prm.indexPos ∧ t.helios[i].az.lastDir = .neg ∧
        (s.sc.state.loaded = true → t.helios[i].engaged = demandedLevel s.src h.hold.isSome) ∧
        t = { s with helios := t.helios, au := t.au }))

/-- R57 to R59, R206: a homing phase at HOME_MAX, and DRVFLT going active while DRVEN is active: the first fault is recorded
and stops both axes. DRVFLT is active low; that the row carries its level is log entry 38. The clause on HOMEFAIL is about
the row taken alone, since the counted step that reaches HOME_MAX detects it itself (log entry 1); that DRVEN, and with it
the DRIVE clause, stands through the LOADING of a RESTART is log entry 25; that placement P is 0 under the fault is the
model's choice (log entry 49). -/
def Obligations.FaultsStopBothAxes : Prop :=
  ∀ (s : State) (i : Fin 8), s.inReset = false → EngagedOk s → s.helios[i].cfg.present = true →
    exec (.driveFault i pinHigh) s = .next { s with helios := s.helios.set i { s.helios[i] with drvflt := false } } ∧
    (s.drven i = false →
      exec (.driveFault i pinLow) s = .next { s with helios := s.helios.set i { s.helios[i] with drvflt := true } }) ∧
    (s.helios[i].fault = .none →
    (∀ a, (s.helios[i].axis a).homingPhase = true → (s.helios[i].axis a).prm.homeMax ≤ (s.helios[i].axis a).phaseCount →
      ∃ t, exec (.homefail i a) s = .next t ∧ OthersKept s t i ∧ t.helios[i] = faulted s.helios[i] .homefail ∧
        t = { s with helios := t.helios, au := t.au }) ∧
    (s.drven i = true → s.helios[i].drvflt = false →
      ∃ t, exec (.driveFault i pinLow) s = .next t ∧ OthersKept s t i ∧
        t.helios[i] = faulted { s.helios[i] with drvflt := true } .drive ∧ t = { s with helios := t.helios, au := t.au }))

/-! ## Inputs -/

/-- R81, R82, R206: the stow input is active low; in level mode LINE follows it, and STOW-RELEASE does not act on LINE;
in edge mode a fall to the active level sets LINE and a rise has no effect, STOW-RELEASE and each reset withdraw LINE,
and an edge while LINE is set changes nothing. That the row carries the level of the pin, and that a repeated level is
no edge, is log entry 38 (DEDUCED). -/
def Obligations.StowInputModes : Prop :=
  (∀ s : State, s.running = true → s.cfg.stowEdge = false →
    (s.stowin = false → ∃ t, exec (.stowInputChange pinLow) s = .next t ∧ t.src = { s.src with stowLine := true } ∧
      Recomputed s t ∧ Latched s t ∧
      t = { s with stowin := true, src := t.src, helios := t.helios, au := t.au }) ∧
    (s.stowin = true → ∃ t, exec (.stowInputChange pinHigh) s = .next t ∧ t.src = { s.src with stowLine := false } ∧
      Recomputed s t ∧ Latched s t ∧
      t = { s with stowin := false, src := t.src, helios := t.helios, au := t.au }) ∧
    ∀ t hf, exec (.stowRelease hf) s = .next t → t.src.stowLine = s.src.stowLine) ∧
  ∀ s : State, s.running = true → s.cfg.stowEdge = true →
    (s.stowin = false → ∃ t, exec (.stowInputChange pinLow) s = .next t ∧ t.src = { s.src with stowLine := true } ∧
      Recomputed s t ∧ Latched s t ∧
      t = { s with stowin := true, src := t.src, helios := t.helios, au := t.au }) ∧
    (s.stowin = true → ∃ t, exec (.stowInputChange pinHigh) s = .next t ∧ t.src = s.src ∧
      Recomputed s t ∧ Latched s t ∧ t = { s with stowin := false, helios := t.helios, au := t.au }) ∧
    (s.stowin = false → s.src.stowLine = true → EngagedOk s →
      exec (.stowInputChange pinLow) s = .next { s with stowin := true }) ∧
    (s.src.stowLine = true → ∃ t, exec (.stowRelease 255) s = .next t ∧ t.src.stowLine = false) ∧
    (∀ w, ∀ c ∈ [Instr.powerOnReset ⟨true, w⟩, Instr.resetn ⟨pinLow, w⟩, Instr.restart 255],
      ∃ t, exec c s = .next t ∧ t.src.stowLine = false)

/-- R133, R134, R135, R206: TRIPIN is active low; a trip edge starts a generation and aborts or withholds the own frame;
none starts while one runs; the end of a generation leaves the code state; the edge away from the active level only
shows. That the phase of a held detector is 0 is the model's choice (log entry 50). -/
def Obligations.TripStartsAGeneration : Prop :=
  ∀ s : State, s.running = true →
    (s.tripin = false → s.dcu.generating = false → ∃ t, exec (.tripEdge pinLow) s = .next t ∧
      t.dcu = { s.dcu with
        active := true, generating := true, genCount := s.cfg.genMs * 500, genMicros := 0
        act := .clear, rel := .clear } ∧
      t.src = { s.src with code := t.src.code } ∧ (s.dcu.active = false → t.src.code = true) ∧
      (s.dcu.active = true → t.src = s.src) ∧ t.bi.tx.phase = .empty ∧ t.bi.mismatch = s.bi.mismatch ∧
      t.bi.counters = { s.bi.counters with
        aborts := if s.bi.tx.phase = .sending then min (s.bi.counters.aborts + 1) 65535 else s.bi.counters.aborts } ∧
      (∀ i : Fin 8, LevelFrame s.helios[i] t.helios[i]) ∧
      t = { s with
        tripin := true, dcu := t.dcu, src := t.src, helios := t.helios, bi := t.bi, fa := t.fa, au := t.au }) ∧
    exec (.tripEdge pinHigh) s = .next { s with tripin := false } ∧
    (s.tripin = true → exec (.tripEdge pinLow) s = .next s) ∧
    (s.tripin = false → s.dcu.generating = true → exec (.tripEdge pinLow) s = .next { s with tripin := true }) ∧
    (s.dcu.generating = true → exec .generationEnd s = .next { s with dcu := { s.dcu with
      generating := false, genCount := 0, genMicros := 0, act := .clear, rel := .clear } })

/-- R127, R128, R130, R131, R135, R136: a bit received: both detectors take it, the slot-match mark and a held
receiver's idle time follow; a detection is the bit at which a run reaches DETECT_REPS × L from below, and each
pattern's detection acts on the code state. On a bit with both, the row says which is taken first (R131; which row comes
is log entry 8). That the phase of a detector that does not lock is 0 is the model's choice (log entry 50). That each
row gives its bit to both detectors, and which detection each takes first, is log entry 18; that a held receiver counts
twenty idle bits is log entry 36 (both DEDUCED). -/
def Obligations.BitsLockAndDetect : Prop :=
  ∀ (s : State) (bit : Bool), s.running = true → s.dcu.generating = false →
    let reps := s.cfg.detectReps
    let rx := s.bi.rx
    (∀ c ∈ [Instr.detectorLock bit, .activateDetection bit, .releaseDetection bit], ∃ t, exec c s = .next t ∧
      TakesBit s.cfg.activate reps bit s.dcu.act t.dcu.act ∧ TakesBit s.cfg.release reps bit s.dcu.rel t.dcu.rel ∧
      (s.activateDetected bit = true ↔ Reaches s.cfg.activate reps bit s.dcu.act t.dcu.act) ∧
      (s.releaseDetected bit = true ↔ Reaches s.cfg.release reps bit s.dcu.rel t.dcu.rel) ∧
      (t.dcu.slotMatch = true ↔ s.dcu.slotMatch = true ∨ s.bi.inOwnSlot = true ∧
        (s.cfg.activate.length ≤ t.dcu.act.run ∨ s.cfg.release.length ≤ t.dcu.rel.run)) ∧
      t.bi.rx = (if rx.held = false then rx else if bit = false then { rx with idle := 0 }
        else if rx.idle < 19 then { rx with idle := rx.idle + 1 } else .clear) ∧
      t.dcu = { s.dcu with act := t.dcu.act, rel := t.dcu.rel, slotMatch := t.dcu.slotMatch, active := t.dcu.active } ∧
      t = { s with dcu := t.dcu, src := t.src, helios := t.helios, bi := { s.bi with rx := t.bi.rx }, au := t.au }) ∧
    (s.activateDetected bit = false → s.releaseDetected bit = false →
      ∃ t, exec (.detectorLock bit) s = .next t ∧ t.dcu.active = s.dcu.active ∧
        t = { s with dcu := t.dcu, bi := { s.bi with rx := t.bi.rx } }) ∧
    (s.activateDetected bit = true → s.releaseDetected bit = false →
      ∃ t, exec (.activateDetection bit) s = .next t ∧ t.dcu.active = true ∧
        (s.dcu.active = false → t.src = { s.src with code := true } ∧ Recomputed s t ∧ Latched s t) ∧
        (s.dcu.active = true → t.src = s.src ∧ t.helios = s.helios ∧ t.au = s.au)) ∧
    (s.releaseDetected bit = true → s.activateDetected bit = false →
      ∃ t, exec (.releaseDetection bit) s = .next t ∧ t.dcu.active = false ∧
        (s.dcu.active = true → t.src = { s.src with code := false } ∧ Recomputed s t ∧ Latched s t) ∧
        (s.dcu.active = false → t.src = s.src ∧ t.helios = s.helios ∧ t.au = s.au)) ∧
    (s.activateDetected bit = true → s.releaseDetected bit = true →
      (∃ t, exec (.activateDetection bit) s = .next t ∧ t.dcu.active = false ∧ t.src = { s.src with code := t.src.code } ∧
        t.src.code = false) ∧
      ∃ t, exec (.releaseDetection bit) s = .next t ∧ t.dcu.active = true ∧ t.src = { s.src with code := t.src.code } ∧
        t.src.code = true)

/-- R157 to R161: a pulse within a window, and the window's end: m, H and CLOUDED in that order. Where no window runs both
change nothing; a window that is not over when its row comes, begun afresh at that instant (R161), does not end. -/
def Obligations.WindowsMeasure : Prop :=
  ∀ s : State, s.running = true →
    (s.irm.running = false → exec .dniPulse s = .next s ∧ exec .windowEnd s = .next s) ∧
    (s.irm.timer < 249999 → exec .windowEnd s = .next s) ∧
    (s.irm.running = true →
      exec .dniPulse s = .next { s with irm := { s.irm with pulses := min (s.irm.pulses + 1) 65535 } }) ∧
    (s.irm.running = true → s.irm.timer = 249999 →
      let m := min (s.irm.pulses * s.cfg.dniScale / 16) 1500
      let h := if s.irm.h ≤ m then m else max m (max (s.irm.h - s.cfg.dniDecay) s.cfg.dniFloor)
      ∃ t, exec .windowEnd s = .next t ∧ Latched s t ∧
        t = { s with
          au := t.au
          irm := { s.irm with
            timer := 0, pulses := 0, m := m, h := h, clouded := decide (m * 256 < h * s.cfg.cloudRatio) } })

/-- R159: from the end of a load that passes, H stays within DNI_FLOOR to 1,500 and is never below the last m, after
every step. -/
def Obligations.PlanningIrradianceStaysInBounds : Prop :=
  ∀ s t : State, IrradianceOk s → step s = .next t → IrradianceOk t

/-! ## Resets and loads -/

/-- R18, R63, R85, R109, R125, R137, R155, R161, R179, R180, R192, R194, R200, R206: each reset gives every block its reset
values; the power-on reset sets POR and RESETn, active low, leaves it; the load begins, with the straps sampled, where the
last of them ends. The model's choice: parameters, records and enable mask blank (log entry 4), the straps and their
number (entries 4 and 5), the draws (22), the queue (27), the pins and the line (28), the phase 0 of a searching detector
(50). -/
def Obligations.ResetsGiveTheResetValues : Prop :=
  ∀ (s : State) (w : BitVec 9),
    let cleared := fun (t : State) (sc : StationController) => t.sc = sc ∧
      (∀ i : Fin 8, t.helios[i] = { State.reset.helios[i] with
        drvflt := s.helios[i].drvflt
        az := { State.reset.helios[i].az with index := s.helios[i].az.index }
        el := { State.reset.helios[i].el with index := s.helios[i].el.index } }) ∧
      t = { State.reset with
        pending := s.pending, draws := s.draws, helios := t.helios, sc := t.sc
        bi := { State.reset.bi with line := s.bi.line }, stowin := s.stowin, tripin := s.tripin, straps := w }
    (∃ t, exec (.powerOnReset ⟨true, w⟩) s = .next t ∧ cleared t { State.reset.sc with
      number := s.sc.number, por := true, inPowerOn := true, inResetn := s.sc.inResetn }) ∧
    (∃ t, exec (.resetn ⟨pinLow, w⟩) s = .next t ∧ cleared t { State.reset.sc with
      number := s.sc.number, por := s.sc.por, inPowerOn := s.sc.inPowerOn, inResetn := true }) ∧
    exec (.powerOnReset ⟨false, w⟩) s = .next { s with
      straps := w
      sc := { s.sc with
        inPowerOn := false
        number := if s.sc.inPowerOn = true ∧ s.sc.inResetn = false then w.toNat else s.sc.number } } ∧
    exec (.resetn ⟨pinHigh, w⟩) s = .next { s with
      straps := w
      sc := { s.sc with
        inResetn := false
        number := if s.sc.inResetn = true ∧ s.sc.inPowerOn = false then w.toNat else s.sc.number } }

/-- R1, R5, R6, R12, R64, R80, R125, R157, R159, R180, R184, R197: the end of a load: a refused image takes the station
into CONFIG-FAULT and no block takes a value of it; one that passes begins SYNCING with the image's parameters and
records. Each heliostat takes its record and its axis parameters; it keeps its offsets and its fault where it was
present before and is after, its homed flag where it is present and IN, and its take-up counts up to the new BACKLASH; a
homed one that stands outside the new soft limits is sent to the nearer limit before it engages; one that is not homed
starts its homing. Straps changed since the load began do not change its number. With DRVFLT active that start is a
fault at once, what the axes then hold is log entry 47, and placement P 0 under it log entry 49. The mark of a RESTART's
instant ends with the load (log entries 27 and 46). -/
def Obligations.LoadEndsInSyncingOrFault : Prop :=
  ∀ (s : State) (w : BitVec 9) (image : List Byte), s.sc.state = .loading → s.inReset = false →
    let loaded : BusInterface := { s.bi with timerInstant := if s.bi.timerInstant = .due then .due else .plain }
    (judgeImage s.sc.number image = none → exec (.loadEnd w image) s =
      .next { s with straps := w, sc := { s.sc with state := .configFault }, bi := loaded }) ∧
    ∀ v, judgeImage s.sc.number image = some v → ∃ t, exec (.loadEnd w image) s = .next t ∧
      t.sc = { s.sc with state := .syncing, listen := false, isoCount := 0 } ∧
      8 ≤ t.sc.number ∧ t.sc.number ≤ 399 ∧ t.cfg = v.cfg ∧
      t.src = { s.src with sun := true, standbyRx := true, stowLine := s.src.stowLine || s.stowin } ∧
      t.interest = t.interestZones ∧ t.interest.length ≤ 8 ∧
      t.irm = { running := true, timer := 0, pulses := 0, m := 0, h := v.cfg.dniDesign, clouded := false } ∧
      t.au = { s.au with enable := v.enable, latches := t.conditions &&& v.enable } ∧ EngagedOk t ∧
      (∀ i : Fin 8, t.helios[i].cfg = v.records[i].cfg ∧ t.helios[i].inService = v.records[i].cfg.initialIn ∧
        t.helios[i].az.prm = v.records[i].az ∧ t.helios[i].el.prm = v.records[i].el ∧
        (t.helios[i].usable = true → t.helios[i].homed = true ∨ t.helios[i].homing = some .el) ∧
        ∀ a : AxisId, (s.helios[i].axis a).period = 0 → s.helios[i].drvflt = false → (t.helios[i].axis a).takeUp =
          if v.records[i].cfg.present = true then min (s.helios[i].axis a).takeUp (t.helios[i].axis a).prm.backlash
          else (s.helios[i].axis a).takeUp) ∧
      (∀ i : Fin 8, s.helios[i].engaged = .none →
        let h := s.helios[i]
        let r := v.records[i]
        let both := h.cfg.present && r.cfg.present
        let homed := h.homed && r.cfg.present && r.cfg.initialIn
        let axisOf := fun (x : Axis) (p : AxisParams) =>
          let y : Axis := { x with prm := p, takeUp := if r.cfg.present = true then min x.takeUp p.backlash else x.takeUp }
          if homed = true ∧ x.position < p.softMin then y.writeTarget p.softMin
          else if homed = true ∧ p.softMax < x.position then y.writeTarget p.softMax else y
        let u : Helio := { h with
          cfg := r.cfg, inService := r.cfg.initialIn, homed := homed, fault := if both = true then h.fault else .none
          dAz := if both = true then h.dAz else r.dAz, dEl := if both = true then h.dEl else r.dEl
          az := axisOf h.az r.az, el := axisOf h.el r.el }
        (u.usable = true → homed = false → h.drvflt = false → t.helios[i] = homingBegun u) ∧
        (u.usable = true → homed = false → h.drvflt = true → t.helios[i] = { u with
          fault := .drive, deferred := none, placementP := 0, homing := none
          az := t.helios[i].az, el := t.helios[i].el } ∧ ∀ a : AxisId,
            (t.helios[i].axis a).drive = .rest ∧ (t.helios[i].axis a).period = 0 ∧
            (t.helios[i].axis a).target = (t.helios[i].axis a).position) ∧
        (u.usable = false ∨ homed = true → t.helios[i] = u.reengage t.src true)) ∧
      t.pt.residue.map Residue.zone = t.interest ∧
      (s.pt.residue = [] → ∀ r ∈ t.pt.residue, r.value = 0) ∧
      (s.fa.plan = [] → t.fa.plan = t.interest.map fun z => { zone := z, planned := 0, want := false }) ∧
      t = { s with
        straps := w, bi := loaded, sc := t.sc, cfg := t.cfg, src := t.src, helios := t.helios, interest := t.interest
        pt := t.pt, fa := t.fa, irm := t.irm, au := t.au }

/-! ## Rules of the whole machine -/

/-- R197: whatever the command, a condition that it changes has its latch set afterwards, if the condition is enabled. -/
def Obligations.EveryTransitionLatches : Prop :=
  ∀ (c : Instr) (s t : State), s.running = true → t.running = true → exec c s = .next t →
    (s.conditions ^^^ t.conditions) &&& s.au.enable &&& ~~~t.au.latches = 0

/-- R5, R7, R191, R194: POR is set by the power-on reset alone, SILENT is left by a reset alone, homed becomes true at an
azimuth index edge alone, and an aim point is assigned at transmit completion alone. -/
def Obligations.OnlyTheseEvents : Prop :=
  ∀ (c : Instr) (s t : State), exec c s = .next t →
    (s.sc.por = false → t.sc.por = true → ∃ w, c = .powerOnReset ⟨true, w⟩) ∧
    (s.sc.state = .silent → t.sc.state ≠ .silent →
      (∃ w, c = .powerOnReset ⟨true, w⟩) ∨ (∃ w, c = .resetn ⟨pinLow, w⟩) ∨ c = .restart 255 ∨
      (∃ slot es, c = .commandFrame slot es ∧ es.any restartsStation = true) ∨
      ∃ raw es, c = .frameDropped raw ∧ judge raw = .valid (.command es) ∧ es.any restartsStation = true) ∧
    (∀ i : Fin 8, s.helios[i].homed = false → t.helios[i].homed = true → c = .indexEdge i .az pinHigh) ∧
    (∀ (i : Fin 8) (ap : Nat), s.helios[i].assignment ≠ some ap → t.helios[i].assignment = some ap →
      c = .transmitCompletion)

/-- The tables of chapters 5 to 10: the registers of the Bus Interface, the Reference Store, the Defocus Code Unit, the Peer
Table, the Irradiance Monitor, the Flux Allocator and the Station Controller that RangesOk names stay within their
ranges, with the parameters they rest on, after every step. -/
def Obligations.StationRegistersStayInRange : Prop :=
  ∀ s t : State, RangesOk s → step s = .next t → RangesOk t

/-- The tables of chapters 1 to 3: P, counted P, placement P, c, last az and last el of every heliostat, and the position,
target, period, counter, take-up count and phase step count of every axis stay within their ranges, after every step. -/
def Obligations.DriveRegistersStayInRange : Prop :=
  ∀ s t : State, HelioRangesOk s → step s = .next t → HelioRangesOk t

/-- The invariants hold at the state right after reset. -/
def Obligations.InvariantsHoldAtReset : Prop :=
  EngagedOk State.reset ∧ FluxOk State.reset ∧ RecordsFresh State.reset ∧ RecordsClear State.reset ∧
    IrradianceOk State.reset ∧ RangesOk State.reset ∧ HelioRangesOk State.reset

/-- R102 to R104: an entry of a reserved kind is answered KIND; its outcome joins the queue as the newest; at a full queue
the oldest is removed, carried or not, and OUTCOMES-LOST is set. -/
def Obligations.OutcomeQueueHoldsFour : Prop :=
  ∀ (s : State) (kind hf : Byte), s.running = true → (kind = 0 ∨ 16 ≤ kind.toNat) → s.bi.outcomes.length ≤ 4 →
    ∃ t, exec (.reservedCommand kind hf) s = .next t ∧ Refused s t kind hf .kind ∧ t.bi.outcomes.length ≤ 4 ∧
      t.bi.outcomes.getLast? = some ⟨kind, hf, .kind, false⟩ ∧
      (s.bi.outcomes.length < 4 → t.bi.outcomes.dropLast = s.bi.outcomes ∧ t.bi.outcomesLost = s.bi.outcomesLost) ∧
      (s.bi.outcomes.length = 4 → t.bi.outcomes.dropLast = s.bi.outcomes.tail ∧ t.bi.outcomesLost = true)

end
end

