-- ==== Sys2Proof/Laws/Drive.lean ====
section
/-! SUPPORT. What the operations of an axis leave alone, and what each writes (chapter 3). -/

namespace Sys2Proof.Machine

/-! ## Generators and moves (R45, R47, R48, R51, R52) -/

@[simp] theorem Axis.startGenerator_prm (a : Axis) (p : Nat) : (a.startGenerator p).prm = a.prm := rfl
@[simp] theorem Axis.startGenerator_position (a : Axis) (p : Nat) : (a.startGenerator p).position = a.position := rfl
@[simp] theorem Axis.startGenerator_target (a : Axis) (p : Nat) : (a.startGenerator p).target = a.target := rfl
@[simp] theorem Axis.startGenerator_lastDir (a : Axis) (p : Nat) : (a.startGenerator p).lastDir = a.lastDir := rfl
@[simp] theorem Axis.startGenerator_takeUp (a : Axis) (p : Nat) : (a.startGenerator p).takeUp = a.takeUp := rfl
@[simp] theorem Axis.startGenerator_phaseCount (a : Axis) (p : Nat) : (a.startGenerator p).phaseCount = a.phaseCount := rfl
@[simp] theorem Axis.startGenerator_index (a : Axis) (p : Nat) : (a.startGenerator p).index = a.index := rfl
@[simp] theorem Axis.startGenerator_drive (a : Axis) (p : Nat) : (a.startGenerator p).drive = a.drive := rfl
@[simp] theorem Axis.startGenerator_dir (a : Axis) (p : Nat) : (a.startGenerator p).dir = a.dir := rfl

@[simp] theorem Axis.startMove_prm (a : Axis) : (a.startMove).prm = a.prm := by
  simp only [Axis.startMove]; (repeat' split) <;> rfl
@[simp] theorem Axis.startMove_position (a : Axis) : (a.startMove).position = a.position := by
  simp only [Axis.startMove]; (repeat' split) <;> rfl
@[simp] theorem Axis.startMove_target (a : Axis) : (a.startMove).target = a.target := by
  simp only [Axis.startMove]; (repeat' split) <;> rfl
@[simp] theorem Axis.startMove_lastDir (a : Axis) : (a.startMove).lastDir = a.lastDir := by
  simp only [Axis.startMove]; (repeat' split) <;> rfl
@[simp] theorem Axis.startMove_takeUp (a : Axis) : (a.startMove).takeUp = a.takeUp := by
  simp only [Axis.startMove]; (repeat' split) <;> rfl
@[simp] theorem Axis.startMove_phaseCount (a : Axis) : (a.startMove).phaseCount = a.phaseCount := by
  simp only [Axis.startMove]; (repeat' split) <;> rfl
@[simp] theorem Axis.startMove_index (a : Axis) : (a.startMove).index = a.index := by
  simp only [Axis.startMove]; (repeat' split) <;> rfl

@[simp] theorem Axis.enterReversing_prm (a : Axis) : (a.enterReversing).prm = a.prm := by
  simp only [Axis.enterReversing]; (repeat' split) <;> first | rfl | simp
@[simp] theorem Axis.enterReversing_position (a : Axis) : (a.enterReversing).position = a.position := by
  simp only [Axis.enterReversing]; (repeat' split) <;> first | rfl | simp
@[simp] theorem Axis.enterReversing_target (a : Axis) : (a.enterReversing).target = a.target := by
  simp only [Axis.enterReversing]; (repeat' split) <;> first | rfl | simp
@[simp] theorem Axis.enterReversing_lastDir (a : Axis) : (a.enterReversing).lastDir = a.lastDir := by
  simp only [Axis.enterReversing]; (repeat' split) <;> first | rfl | simp
@[simp] theorem Axis.enterReversing_takeUp (a : Axis) : (a.enterReversing).takeUp = a.takeUp := by
  simp only [Axis.enterReversing]; (repeat' split) <;> first | rfl | simp
@[simp] theorem Axis.enterReversing_phaseCount (a : Axis) : (a.enterReversing).phaseCount = a.phaseCount := by
  simp only [Axis.enterReversing]; (repeat' split) <;> first | rfl | simp
@[simp] theorem Axis.enterReversing_index (a : Axis) : (a.enterReversing).index = a.index := by
  simp only [Axis.enterReversing]; (repeat' split) <;> first | rfl | simp

@[simp] theorem Axis.writeTarget_prm (a : Axis) (t : Int) : (a.writeTarget t).prm = a.prm := by
  simp only [Axis.writeTarget]; (repeat' split) <;> first | rfl | simp
@[simp] theorem Axis.writeTarget_position (a : Axis) (t : Int) : (a.writeTarget t).position = a.position := by
  simp only [Axis.writeTarget]; (repeat' split) <;> first | rfl | simp
@[simp] theorem Axis.writeTarget_lastDir (a : Axis) (t : Int) : (a.writeTarget t).lastDir = a.lastDir := by
  simp only [Axis.writeTarget]; (repeat' split) <;> first | rfl | simp
@[simp] theorem Axis.writeTarget_takeUp (a : Axis) (t : Int) : (a.writeTarget t).takeUp = a.takeUp := by
  simp only [Axis.writeTarget]; (repeat' split) <;> first | rfl | simp
@[simp] theorem Axis.writeTarget_phaseCount (a : Axis) (t : Int) : (a.writeTarget t).phaseCount = a.phaseCount := by
  simp only [Axis.writeTarget]; (repeat' split) <;> first | rfl | simp
@[simp] theorem Axis.writeTarget_index (a : Axis) (t : Int) : (a.writeTarget t).index = a.index := by
  simp only [Axis.writeTarget]; (repeat' split) <;> first | rfl | simp

@[simp] theorem Axis.writeTarget_target (a : Axis) (t : Int) : (a.writeTarget t).target = t := by
  simp only [Axis.writeTarget]; (repeat' split) <;> first | rfl | simp

/-! ## Stops and homing (R45, R55, R56, R59) -/

@[simp] theorem Axis.countStep_prm (a : Axis) : (a.countStep).prm = a.prm := rfl
@[simp] theorem Axis.countStep_target (a : Axis) : (a.countStep).target = a.target := rfl
@[simp] theorem Axis.countStep_drive (a : Axis) : (a.countStep).drive = a.drive := rfl
@[simp] theorem Axis.countStep_period (a : Axis) : (a.countStep).period = a.period := rfl
@[simp] theorem Axis.countStep_counter (a : Axis) : (a.countStep).counter = a.counter := rfl
@[simp] theorem Axis.countStep_dir (a : Axis) : (a.countStep).dir = a.dir := rfl
@[simp] theorem Axis.countStep_index (a : Axis) : (a.countStep).index = a.index := rfl

@[simp] theorem Axis.stopNow_prm (a : Axis) : (a.stopNow).prm = a.prm := by
  simp only [Axis.stopNow]; (repeat' split) <;> rfl
@[simp] theorem Axis.stopNow_target (a : Axis) : (a.stopNow).target = a.target := by
  simp only [Axis.stopNow]; (repeat' split) <;> rfl
@[simp] theorem Axis.stopNow_drive (a : Axis) : (a.stopNow).drive = a.drive := by
  simp only [Axis.stopNow]; (repeat' split) <;> rfl
@[simp] theorem Axis.stopNow_dir (a : Axis) : (a.stopNow).dir = a.dir := by
  simp only [Axis.stopNow]; (repeat' split) <;> rfl
@[simp] theorem Axis.stopNow_index (a : Axis) : (a.stopNow).index = a.index := by
  simp only [Axis.stopNow]; (repeat' split) <;> rfl

@[simp] theorem Axis.stopNow_period (a : Axis) : a.stopNow.period = 0 := by
  simp only [Axis.stopNow]; (repeat' split) <;> first | rfl | assumption

/-- R59, R61, R64: a halted axis rests at its position with its generator stopped. -/
theorem Axis.halt_spec (a : Axis) :
    a.halt.drive = .rest ∧ a.halt.period = 0 ∧ a.halt.target = a.halt.position ∧ a.halt.prm = a.prm ∧
      a.halt.index = a.index ∧ a.halt.position = a.stopNow.position := by
  simp [Axis.halt]

@[simp] theorem Axis.beginHoming_prm (a : Axis) : (a.beginHoming).prm = a.prm := by
  simp only [Axis.beginHoming]; split <;> rfl
@[simp] theorem Axis.beginHoming_position (a : Axis) : (a.beginHoming).position = a.position := by
  simp only [Axis.beginHoming]; split <;> rfl
@[simp] theorem Axis.beginHoming_target (a : Axis) : (a.beginHoming).target = a.target := by
  simp only [Axis.beginHoming]; split <;> rfl
@[simp] theorem Axis.beginHoming_lastDir (a : Axis) : (a.beginHoming).lastDir = a.lastDir := by
  simp only [Axis.beginHoming]; split <;> rfl
@[simp] theorem Axis.beginHoming_takeUp (a : Axis) : (a.beginHoming).takeUp = a.takeUp := by
  simp only [Axis.beginHoming]; split <;> rfl
@[simp] theorem Axis.beginHoming_index (a : Axis) : (a.beginHoming).index = a.index := by
  simp only [Axis.beginHoming]; split <;> rfl

/-- R56: an axis whose homing is complete rests at INDEX_POS. -/
theorem Axis.finishHoming_spec (a : Axis) :
    a.finishHoming.drive = .rest ∧ a.finishHoming.period = 0 ∧ a.finishHoming.position = a.prm.indexPos ∧
      a.finishHoming.target = a.prm.indexPos ∧ a.finishHoming.lastDir = .neg ∧ a.finishHoming.prm = a.prm ∧ a.finishHoming.index = a.index := by
  simp [Axis.finishHoming]

/-- R53: a re-synced axis stands at INDEX_POS, with its target kept. -/
theorem Axis.resync_spec (a : Axis) :
    a.resync.position = a.prm.indexPos ∧ a.resync.target = a.target ∧ a.resync.prm = a.prm := by
  simp only [Axis.resync]; split <;> simp

/-- R46: a counted step moves the position only where no take-up is owed. -/
theorem Axis.countStep_spec (a : Axis) :
    let owed := if a.dir = a.lastDir then a.takeUp else a.prm.backlash
    a.countStep.lastDir = a.dir ∧ a.countStep.takeUp = owed - 1 ∧
      (owed ≠ 0 → a.countStep.position = a.position) ∧
      (owed = 0 → a.countStep.position =
        fitPosition (if a.dir = .pos then a.position + 1 else a.position - 1)) := by
  refine ⟨rfl, rfl, ?_, ?_⟩
  · intro h; simp only [Axis.countStep, if_neg h]
  · intro h; simp only [Axis.countStep, if_pos h]; cases a.dir <;> rfl

end Sys2Proof.Machine
end

