-- ==== Sys2Proof/Laws/State.lean ====
section
/-! SUPPORT. One lemma per field per update of the state, so that no proof unfolds a record update. -/

namespace Sys2Proof.Machine

/-! ## Banks -/

@[simp] theorem getElem_mapEach {α : Type} {n : Nat} (f : Fin n → α → α) (v : Vector α n) (i : Nat) (hi : i < n) :
    (mapEach f v)[i] = f ⟨i, hi⟩ v[i] := by
  simp [mapEach]

theorem set_helio_self (v : Vector Helio 8) (i : Fin 8) (h : Helio) : (v.set i h)[i] = h := by simp

theorem set_helio_other (v : Vector Helio 8) (i j : Fin 8) (h : Helio) (hj : j ≠ i) : (v.set i h)[j] = v[j] := by
  simpa using Vector.getElem_set_ne i.isLt j.isLt (fun e => hj (Fin.ext e.symm))

/-! ## Axes of a heliostat -/

@[simp] theorem Helio.axis_setAxis (h : Helio) (a : AxisId) (x : Axis) : (h.setAxis a x).axis a = x := by cases a <;> rfl

@[simp] theorem Helio.setAxis_setAxis (h : Helio) (a : AxisId) (x y : Axis) :
    (h.setAxis a x).setAxis a y = h.setAxis a y := by cases a <;> rfl

@[simp] theorem Helio.setAxis_axis (h : Helio) (a : AxisId) : h.setAxis a (h.axis a) = h := by cases a <;> rfl

@[simp] theorem Helio.setAxis_cfg (h : Helio) (a : AxisId) (x : Axis) : (h.setAxis a x).cfg = h.cfg := by cases a <;> rfl
@[simp] theorem Helio.setAxis_dAz (h : Helio) (a : AxisId) (x : Axis) : (h.setAxis a x).dAz = h.dAz := by cases a <;> rfl
@[simp] theorem Helio.setAxis_dEl (h : Helio) (a : AxisId) (x : Axis) : (h.setAxis a x).dEl = h.dEl := by cases a <;> rfl
@[simp] theorem Helio.setAxis_inService (h : Helio) (a : AxisId) (x : Axis) : (h.setAxis a x).inService = h.inService := by cases a <;> rfl
@[simp] theorem Helio.setAxis_homed (h : Helio) (a : AxisId) (x : Axis) : (h.setAxis a x).homed = h.homed := by cases a <;> rfl
@[simp] theorem Helio.setAxis_fault (h : Helio) (a : AxisId) (x : Axis) : (h.setAxis a x).fault = h.fault := by cases a <;> rfl
@[simp] theorem Helio.setAxis_assignment (h : Helio) (a : AxisId) (x : Axis) : (h.setAxis a x).assignment = h.assignment := by cases a <;> rfl
@[simp] theorem Helio.setAxis_deferred (h : Helio) (a : AxisId) (x : Axis) : (h.setAxis a x).deferred = h.deferred := by cases a <;> rfl
@[simp] theorem Helio.setAxis_placementP (h : Helio) (a : AxisId) (x : Axis) : (h.setAxis a x).placementP = h.placementP := by cases a <;> rfl
@[simp] theorem Helio.setAxis_countedP (h : Helio) (a : AxisId) (x : Axis) : (h.setAxis a x).countedP = h.countedP := by cases a <;> rfl
@[simp] theorem Helio.setAxis_p (h : Helio) (a : AxisId) (x : Axis) : (h.setAxis a x).p = h.p := by cases a <;> rfl
@[simp] theorem Helio.setAxis_c (h : Helio) (a : AxisId) (x : Axis) : (h.setAxis a x).c = h.c := by cases a <;> rfl
@[simp] theorem Helio.setAxis_lastAz (h : Helio) (a : AxisId) (x : Axis) : (h.setAxis a x).lastAz = h.lastAz := by cases a <;> rfl
@[simp] theorem Helio.setAxis_lastEl (h : Helio) (a : AxisId) (x : Axis) : (h.setAxis a x).lastEl = h.lastEl := by cases a <;> rfl
@[simp] theorem Helio.setAxis_limit (h : Helio) (a : AxisId) (x : Axis) : (h.setAxis a x).limit = h.limit := by cases a <;> rfl
@[simp] theorem Helio.setAxis_geom (h : Helio) (a : AxisId) (x : Axis) : (h.setAxis a x).geom = h.geom := by cases a <;> rfl
@[simp] theorem Helio.setAxis_homing (h : Helio) (a : AxisId) (x : Axis) : (h.setAxis a x).homing = h.homing := by cases a <;> rfl
@[simp] theorem Helio.setAxis_hold (h : Helio) (a : AxisId) (x : Axis) : (h.setAxis a x).hold = h.hold := by cases a <;> rfl
@[simp] theorem Helio.setAxis_engaged (h : Helio) (a : AxisId) (x : Axis) : (h.setAxis a x).engaged = h.engaged := by cases a <;> rfl
@[simp] theorem Helio.setAxis_snapshot (h : Helio) (a : AxisId) (x : Axis) : (h.setAxis a x).snapshot = h.snapshot := by cases a <;> rfl
@[simp] theorem Helio.setAxis_drvflt (h : Helio) (a : AxisId) (x : Axis) : (h.setAxis a x).drvflt = h.drvflt := by cases a <;> rfl

/-! ## A heliostat replaced (R68) -/

@[simp] theorem State.updateHelio_pending (s : State) (i : Fin 8) (f : Helio → Helio) : (s.updateHelio i f).pending = s.pending := rfl
@[simp] theorem State.updateHelio_draws (s : State) (i : Fin 8) (f : Helio → Helio) : (s.updateHelio i f).draws = s.draws := rfl
@[simp] theorem State.updateHelio_cfg (s : State) (i : Fin 8) (f : Helio → Helio) : (s.updateHelio i f).cfg = s.cfg := rfl
@[simp] theorem State.updateHelio_interest (s : State) (i : Fin 8) (f : Helio → Helio) : (s.updateHelio i f).interest = s.interest := rfl
@[simp] theorem State.updateHelio_src (s : State) (i : Fin 8) (f : Helio → Helio) : (s.updateHelio i f).src = s.src := rfl
@[simp] theorem State.updateHelio_bi (s : State) (i : Fin 8) (f : Helio → Helio) : (s.updateHelio i f).bi = s.bi := rfl
@[simp] theorem State.updateHelio_rs (s : State) (i : Fin 8) (f : Helio → Helio) : (s.updateHelio i f).rs = s.rs := rfl
@[simp] theorem State.updateHelio_dcu (s : State) (i : Fin 8) (f : Helio → Helio) : (s.updateHelio i f).dcu = s.dcu := rfl
@[simp] theorem State.updateHelio_pt (s : State) (i : Fin 8) (f : Helio → Helio) : (s.updateHelio i f).pt = s.pt := rfl
@[simp] theorem State.updateHelio_irm (s : State) (i : Fin 8) (f : Helio → Helio) : (s.updateHelio i f).irm = s.irm := rfl
@[simp] theorem State.updateHelio_fa (s : State) (i : Fin 8) (f : Helio → Helio) : (s.updateHelio i f).fa = s.fa := rfl
@[simp] theorem State.updateHelio_sc (s : State) (i : Fin 8) (f : Helio → Helio) : (s.updateHelio i f).sc = s.sc := rfl
@[simp] theorem State.updateHelio_au (s : State) (i : Fin 8) (f : Helio → Helio) : (s.updateHelio i f).au = s.au := rfl
@[simp] theorem State.updateHelio_acu (s : State) (i : Fin 8) (f : Helio → Helio) : (s.updateHelio i f).acu = s.acu := rfl
@[simp] theorem State.updateHelio_stowin (s : State) (i : Fin 8) (f : Helio → Helio) : (s.updateHelio i f).stowin = s.stowin := rfl
@[simp] theorem State.updateHelio_tripin (s : State) (i : Fin 8) (f : Helio → Helio) : (s.updateHelio i f).tripin = s.tripin := rfl
@[simp] theorem State.updateHelio_straps (s : State) (i : Fin 8) (f : Helio → Helio) : (s.updateHelio i f).straps = s.straps := rfl

theorem State.updateHelio_self (s : State) (i : Fin 8) (f : Helio → Helio) :
    (s.updateHelio i f).helios[i] = (f s.helios[i]).reengage s.src s.sc.state.loaded := by
  simp [State.updateHelio]

theorem State.updateHelio_other (s : State) (i j : Fin 8) (f : Helio → Helio) (hj : j ≠ i) :
    (s.updateHelio i f).helios[j] = s.helios[j] := set_helio_other _ _ _ _ hj

/-! ## Levels recomputed (R68) -/

@[simp] theorem State.reengageAll_pending (s : State) : (s.reengageAll).pending = s.pending := rfl
@[simp] theorem State.reengageAll_draws (s : State) : (s.reengageAll).draws = s.draws := rfl
@[simp] theorem State.reengageAll_cfg (s : State) : (s.reengageAll).cfg = s.cfg := rfl
@[simp] theorem State.reengageAll_interest (s : State) : (s.reengageAll).interest = s.interest := rfl
@[simp] theorem State.reengageAll_src (s : State) : (s.reengageAll).src = s.src := rfl
@[simp] theorem State.reengageAll_bi (s : State) : (s.reengageAll).bi = s.bi := rfl
@[simp] theorem State.reengageAll_rs (s : State) : (s.reengageAll).rs = s.rs := rfl
@[simp] theorem State.reengageAll_dcu (s : State) : (s.reengageAll).dcu = s.dcu := rfl
@[simp] theorem State.reengageAll_pt (s : State) : (s.reengageAll).pt = s.pt := rfl
@[simp] theorem State.reengageAll_irm (s : State) : (s.reengageAll).irm = s.irm := rfl
@[simp] theorem State.reengageAll_fa (s : State) : (s.reengageAll).fa = s.fa := rfl
@[simp] theorem State.reengageAll_sc (s : State) : (s.reengageAll).sc = s.sc := rfl
@[simp] theorem State.reengageAll_au (s : State) : (s.reengageAll).au = s.au := rfl
@[simp] theorem State.reengageAll_acu (s : State) : (s.reengageAll).acu = s.acu := rfl
@[simp] theorem State.reengageAll_stowin (s : State) : (s.reengageAll).stowin = s.stowin := rfl
@[simp] theorem State.reengageAll_tripin (s : State) : (s.reengageAll).tripin = s.tripin := rfl
@[simp] theorem State.reengageAll_straps (s : State) : (s.reengageAll).straps = s.straps := rfl

@[simp] theorem State.reengageAll_helio (s : State) (i : Nat) (hi : i < 8) :
    s.reengageAll.helios[i] = s.helios[i].reengage s.src s.sc.state.loaded := by simp [State.reengageAll]

/-! ## Sources set and withdrawn (R65) -/

@[simp] theorem State.setSources_pending (s : State) (f : Sources → Sources) : (s.setSources f).pending = s.pending := rfl
@[simp] theorem State.setSources_draws (s : State) (f : Sources → Sources) : (s.setSources f).draws = s.draws := rfl
@[simp] theorem State.setSources_cfg (s : State) (f : Sources → Sources) : (s.setSources f).cfg = s.cfg := rfl
@[simp] theorem State.setSources_interest (s : State) (f : Sources → Sources) : (s.setSources f).interest = s.interest := rfl
@[simp] theorem State.setSources_bi (s : State) (f : Sources → Sources) : (s.setSources f).bi = s.bi := rfl
@[simp] theorem State.setSources_rs (s : State) (f : Sources → Sources) : (s.setSources f).rs = s.rs := rfl
@[simp] theorem State.setSources_dcu (s : State) (f : Sources → Sources) : (s.setSources f).dcu = s.dcu := rfl
@[simp] theorem State.setSources_pt (s : State) (f : Sources → Sources) : (s.setSources f).pt = s.pt := rfl
@[simp] theorem State.setSources_irm (s : State) (f : Sources → Sources) : (s.setSources f).irm = s.irm := rfl
@[simp] theorem State.setSources_fa (s : State) (f : Sources → Sources) : (s.setSources f).fa = s.fa := rfl
@[simp] theorem State.setSources_sc (s : State) (f : Sources → Sources) : (s.setSources f).sc = s.sc := rfl
@[simp] theorem State.setSources_au (s : State) (f : Sources → Sources) : (s.setSources f).au = s.au := rfl
@[simp] theorem State.setSources_acu (s : State) (f : Sources → Sources) : (s.setSources f).acu = s.acu := rfl
@[simp] theorem State.setSources_stowin (s : State) (f : Sources → Sources) : (s.setSources f).stowin = s.stowin := rfl
@[simp] theorem State.setSources_tripin (s : State) (f : Sources → Sources) : (s.setSources f).tripin = s.tripin := rfl
@[simp] theorem State.setSources_straps (s : State) (f : Sources → Sources) : (s.setSources f).straps = s.straps := rfl

@[simp] theorem State.setSources_src (s : State) (f : Sources → Sources) : (s.setSources f).src = f s.src := rfl

@[simp] theorem State.setSources_helio (s : State) (f : Sources → Sources) (i : Nat) (hi : i < 8) :
    (s.setSources f).helios[i] = s.helios[i].reengage (f s.src) s.sc.state.loaded := by simp [State.setSources]

/-! ## Counters (R108) -/

@[simp] theorem State.count_pending (s : State) (f : Counters → Counters) : (s.count f).pending = s.pending := rfl
@[simp] theorem State.count_draws (s : State) (f : Counters → Counters) : (s.count f).draws = s.draws := rfl
@[simp] theorem State.count_cfg (s : State) (f : Counters → Counters) : (s.count f).cfg = s.cfg := rfl
@[simp] theorem State.count_helios (s : State) (f : Counters → Counters) : (s.count f).helios = s.helios := rfl
@[simp] theorem State.count_interest (s : State) (f : Counters → Counters) : (s.count f).interest = s.interest := rfl
@[simp] theorem State.count_src (s : State) (f : Counters → Counters) : (s.count f).src = s.src := rfl
@[simp] theorem State.count_rs (s : State) (f : Counters → Counters) : (s.count f).rs = s.rs := rfl
@[simp] theorem State.count_dcu (s : State) (f : Counters → Counters) : (s.count f).dcu = s.dcu := rfl
@[simp] theorem State.count_pt (s : State) (f : Counters → Counters) : (s.count f).pt = s.pt := rfl
@[simp] theorem State.count_irm (s : State) (f : Counters → Counters) : (s.count f).irm = s.irm := rfl
@[simp] theorem State.count_fa (s : State) (f : Counters → Counters) : (s.count f).fa = s.fa := rfl
@[simp] theorem State.count_sc (s : State) (f : Counters → Counters) : (s.count f).sc = s.sc := rfl
@[simp] theorem State.count_au (s : State) (f : Counters → Counters) : (s.count f).au = s.au := rfl
@[simp] theorem State.count_acu (s : State) (f : Counters → Counters) : (s.count f).acu = s.acu := rfl
@[simp] theorem State.count_stowin (s : State) (f : Counters → Counters) : (s.count f).stowin = s.stowin := rfl
@[simp] theorem State.count_tripin (s : State) (f : Counters → Counters) : (s.count f).tripin = s.tripin := rfl
@[simp] theorem State.count_straps (s : State) (f : Counters → Counters) : (s.count f).straps = s.straps := rfl

@[simp] theorem State.count_bi (s : State) (f : Counters → Counters) :
    (s.count f).bi = { s.bi with counters := f s.bi.counters } := rfl

/-! ## Answers (R103, R104) -/

@[simp] theorem State.answer_pending (s : State) (k h : Byte) (r : Result) : (s.answer k h r).pending = s.pending := rfl
@[simp] theorem State.answer_draws (s : State) (k h : Byte) (r : Result) : (s.answer k h r).draws = s.draws := rfl
@[simp] theorem State.answer_cfg (s : State) (k h : Byte) (r : Result) : (s.answer k h r).cfg = s.cfg := rfl
@[simp] theorem State.answer_helios (s : State) (k h : Byte) (r : Result) : (s.answer k h r).helios = s.helios := rfl
@[simp] theorem State.answer_interest (s : State) (k h : Byte) (r : Result) : (s.answer k h r).interest = s.interest := rfl
@[simp] theorem State.answer_src (s : State) (k h : Byte) (r : Result) : (s.answer k h r).src = s.src := rfl
@[simp] theorem State.answer_rs (s : State) (k h : Byte) (r : Result) : (s.answer k h r).rs = s.rs := rfl
@[simp] theorem State.answer_dcu (s : State) (k h : Byte) (r : Result) : (s.answer k h r).dcu = s.dcu := rfl
@[simp] theorem State.answer_pt (s : State) (k h : Byte) (r : Result) : (s.answer k h r).pt = s.pt := rfl
@[simp] theorem State.answer_irm (s : State) (k h : Byte) (r : Result) : (s.answer k h r).irm = s.irm := rfl
@[simp] theorem State.answer_fa (s : State) (k h : Byte) (r : Result) : (s.answer k h r).fa = s.fa := rfl
@[simp] theorem State.answer_sc (s : State) (k h : Byte) (r : Result) : (s.answer k h r).sc = s.sc := rfl
@[simp] theorem State.answer_au (s : State) (k h : Byte) (r : Result) : (s.answer k h r).au = s.au := rfl
@[simp] theorem State.answer_acu (s : State) (k h : Byte) (r : Result) : (s.answer k h r).acu = s.acu := rfl
@[simp] theorem State.answer_stowin (s : State) (k h : Byte) (r : Result) : (s.answer k h r).stowin = s.stowin := rfl
@[simp] theorem State.answer_tripin (s : State) (k h : Byte) (r : Result) : (s.answer k h r).tripin = s.tripin := rfl
@[simp] theorem State.answer_straps (s : State) (k h : Byte) (r : Result) : (s.answer k h r).straps = s.straps := rfl

/-! ## A peer set replaced (R139) -/

@[simp] theorem State.setPeerSet_pending (s : State) (i : Fin 32) (st : PeerSet) : (s.setPeerSet i st).pending = s.pending := rfl
@[simp] theorem State.setPeerSet_draws (s : State) (i : Fin 32) (st : PeerSet) : (s.setPeerSet i st).draws = s.draws := rfl
@[simp] theorem State.setPeerSet_cfg (s : State) (i : Fin 32) (st : PeerSet) : (s.setPeerSet i st).cfg = s.cfg := rfl
@[simp] theorem State.setPeerSet_helios (s : State) (i : Fin 32) (st : PeerSet) : (s.setPeerSet i st).helios = s.helios := rfl
@[simp] theorem State.setPeerSet_interest (s : State) (i : Fin 32) (st : PeerSet) : (s.setPeerSet i st).interest = s.interest := rfl
@[simp] theorem State.setPeerSet_src (s : State) (i : Fin 32) (st : PeerSet) : (s.setPeerSet i st).src = s.src := rfl
@[simp] theorem State.setPeerSet_bi (s : State) (i : Fin 32) (st : PeerSet) : (s.setPeerSet i st).bi = s.bi := rfl
@[simp] theorem State.setPeerSet_rs (s : State) (i : Fin 32) (st : PeerSet) : (s.setPeerSet i st).rs = s.rs := rfl
@[simp] theorem State.setPeerSet_dcu (s : State) (i : Fin 32) (st : PeerSet) : (s.setPeerSet i st).dcu = s.dcu := rfl
@[simp] theorem State.setPeerSet_irm (s : State) (i : Fin 32) (st : PeerSet) : (s.setPeerSet i st).irm = s.irm := rfl
@[simp] theorem State.setPeerSet_fa (s : State) (i : Fin 32) (st : PeerSet) : (s.setPeerSet i st).fa = s.fa := rfl
@[simp] theorem State.setPeerSet_sc (s : State) (i : Fin 32) (st : PeerSet) : (s.setPeerSet i st).sc = s.sc := rfl
@[simp] theorem State.setPeerSet_au (s : State) (i : Fin 32) (st : PeerSet) : (s.setPeerSet i st).au = s.au := rfl
@[simp] theorem State.setPeerSet_acu (s : State) (i : Fin 32) (st : PeerSet) : (s.setPeerSet i st).acu = s.acu := rfl
@[simp] theorem State.setPeerSet_stowin (s : State) (i : Fin 32) (st : PeerSet) : (s.setPeerSet i st).stowin = s.stowin := rfl
@[simp] theorem State.setPeerSet_tripin (s : State) (i : Fin 32) (st : PeerSet) : (s.setPeerSet i st).tripin = s.tripin := rfl
@[simp] theorem State.setPeerSet_straps (s : State) (i : Fin 32) (st : PeerSet) : (s.setPeerSet i st).straps = s.straps := rfl

/-! ## The interest set (R12, R13) -/

@[simp] theorem State.recomputeInterest_pending (s : State) : (s.recomputeInterest).pending = s.pending := rfl
@[simp] theorem State.recomputeInterest_draws (s : State) : (s.recomputeInterest).draws = s.draws := rfl
@[simp] theorem State.recomputeInterest_cfg (s : State) : (s.recomputeInterest).cfg = s.cfg := rfl
@[simp] theorem State.recomputeInterest_helios (s : State) : (s.recomputeInterest).helios = s.helios := rfl
@[simp] theorem State.recomputeInterest_src (s : State) : (s.recomputeInterest).src = s.src := rfl
@[simp] theorem State.recomputeInterest_bi (s : State) : (s.recomputeInterest).bi = s.bi := rfl
@[simp] theorem State.recomputeInterest_rs (s : State) : (s.recomputeInterest).rs = s.rs := rfl
@[simp] theorem State.recomputeInterest_dcu (s : State) : (s.recomputeInterest).dcu = s.dcu := rfl
@[simp] theorem State.recomputeInterest_irm (s : State) : (s.recomputeInterest).irm = s.irm := rfl
@[simp] theorem State.recomputeInterest_sc (s : State) : (s.recomputeInterest).sc = s.sc := rfl
@[simp] theorem State.recomputeInterest_au (s : State) : (s.recomputeInterest).au = s.au := rfl
@[simp] theorem State.recomputeInterest_acu (s : State) : (s.recomputeInterest).acu = s.acu := rfl
@[simp] theorem State.recomputeInterest_stowin (s : State) : (s.recomputeInterest).stowin = s.stowin := rfl
@[simp] theorem State.recomputeInterest_tripin (s : State) : (s.recomputeInterest).tripin = s.tripin := rfl
@[simp] theorem State.recomputeInterest_straps (s : State) : (s.recomputeInterest).straps = s.straps := rfl

/-! ## What the Alert Unit sees (R197) -/

@[simp] theorem State.change_pending (s : State) (f : State → State) : (s.change f).pending = (f s).pending := by
  simp only [State.change, State.observed]; split <;> rfl
@[simp] theorem State.change_draws (s : State) (f : State → State) : (s.change f).draws = (f s).draws := by
  simp only [State.change, State.observed]; split <;> rfl
@[simp] theorem State.change_cfg (s : State) (f : State → State) : (s.change f).cfg = (f s).cfg := by
  simp only [State.change, State.observed]; split <;> rfl
@[simp] theorem State.change_helios (s : State) (f : State → State) : (s.change f).helios = (f s).helios := by
  simp only [State.change, State.observed]; split <;> rfl
@[simp] theorem State.change_interest (s : State) (f : State → State) : (s.change f).interest = (f s).interest := by
  simp only [State.change, State.observed]; split <;> rfl
@[simp] theorem State.change_src (s : State) (f : State → State) : (s.change f).src = (f s).src := by
  simp only [State.change, State.observed]; split <;> rfl
@[simp] theorem State.change_bi (s : State) (f : State → State) : (s.change f).bi = (f s).bi := by
  simp only [State.change, State.observed]; split <;> rfl
@[simp] theorem State.change_rs (s : State) (f : State → State) : (s.change f).rs = (f s).rs := by
  simp only [State.change, State.observed]; split <;> rfl
@[simp] theorem State.change_dcu (s : State) (f : State → State) : (s.change f).dcu = (f s).dcu := by
  simp only [State.change, State.observed]; split <;> rfl
@[simp] theorem State.change_pt (s : State) (f : State → State) : (s.change f).pt = (f s).pt := by
  simp only [State.change, State.observed]; split <;> rfl
@[simp] theorem State.change_irm (s : State) (f : State → State) : (s.change f).irm = (f s).irm := by
  simp only [State.change, State.observed]; split <;> rfl
@[simp] theorem State.change_fa (s : State) (f : State → State) : (s.change f).fa = (f s).fa := by
  simp only [State.change, State.observed]; split <;> rfl
@[simp] theorem State.change_sc (s : State) (f : State → State) : (s.change f).sc = (f s).sc := by
  simp only [State.change, State.observed]; split <;> rfl
@[simp] theorem State.change_acu (s : State) (f : State → State) : (s.change f).acu = (f s).acu := by
  simp only [State.change, State.observed]; split <;> rfl
@[simp] theorem State.change_stowin (s : State) (f : State → State) : (s.change f).stowin = (f s).stowin := by
  simp only [State.change, State.observed]; split <;> rfl
@[simp] theorem State.change_tripin (s : State) (f : State → State) : (s.change f).tripin = (f s).tripin := by
  simp only [State.change, State.observed]; split <;> rfl
@[simp] theorem State.change_straps (s : State) (f : State → State) : (s.change f).straps = (f s).straps := by
  simp only [State.change, State.observed]; split <;> rfl

theorem State.change_eq (s : State) (f : State → State) : s.change f = { f s with au := (s.change f).au } := by
  simp only [State.change, State.observed]; split <;> rfl

theorem State.change_au (s : State) (f : State → State) (h : s.running = true) (h' : (f s).running = true) :
    (s.change f).au = (f s).au.latch s.conditions (f s).conditions := by
  simp [State.change, State.observed, h, h']

/-- R197: a change that leaves every condition sets no latch. -/
@[simp] theorem AlertUnit.latch_self (au : AlertUnit) (c : BitVec 16) : au.latch c c = au := by
  have h : ~~~(0#16 : BitVec 16) = BitVec.allOnes 16 := rfl
  simp only [AlertUnit.latch, BitVec.xor_self, BitVec.zero_and, BitVec.or_zero, h, BitVec.and_allOnes]

end Sys2Proof.Machine
end

