-- ==== Sys2Proof/Laws/Levels.lean ====
section
/-! SUPPORT. Engaged levels (R67 to R72), faults and homing starts: what each operation on one heliostat can do. -/

namespace Sys2Proof.Machine

/-! ## Fields that a level leaves alone -/

@[simp] theorem Helio.writeTargets_cfg (h : Helio) (t : Steps) : (h.writeTargets t).cfg = h.cfg := rfl
@[simp] theorem Helio.writeTargets_dAz (h : Helio) (t : Steps) : (h.writeTargets t).dAz = h.dAz := rfl
@[simp] theorem Helio.writeTargets_dEl (h : Helio) (t : Steps) : (h.writeTargets t).dEl = h.dEl := rfl
@[simp] theorem Helio.writeTargets_inService (h : Helio) (t : Steps) : (h.writeTargets t).inService = h.inService := rfl
@[simp] theorem Helio.writeTargets_homed (h : Helio) (t : Steps) : (h.writeTargets t).homed = h.homed := rfl
@[simp] theorem Helio.writeTargets_fault (h : Helio) (t : Steps) : (h.writeTargets t).fault = h.fault := rfl
@[simp] theorem Helio.writeTargets_countedP (h : Helio) (t : Steps) : (h.writeTargets t).countedP = h.countedP := rfl
@[simp] theorem Helio.writeTargets_p (h : Helio) (t : Steps) : (h.writeTargets t).p = h.p := rfl
@[simp] theorem Helio.writeTargets_c (h : Helio) (t : Steps) : (h.writeTargets t).c = h.c := rfl
@[simp] theorem Helio.writeTargets_lastAz (h : Helio) (t : Steps) : (h.writeTargets t).lastAz = h.lastAz := rfl
@[simp] theorem Helio.writeTargets_lastEl (h : Helio) (t : Steps) : (h.writeTargets t).lastEl = h.lastEl := rfl
@[simp] theorem Helio.writeTargets_geom (h : Helio) (t : Steps) : (h.writeTargets t).geom = h.geom := rfl
@[simp] theorem Helio.writeTargets_homing (h : Helio) (t : Steps) : (h.writeTargets t).homing = h.homing := rfl
@[simp] theorem Helio.writeTargets_hold (h : Helio) (t : Steps) : (h.writeTargets t).hold = h.hold := rfl
@[simp] theorem Helio.writeTargets_drvflt (h : Helio) (t : Steps) : (h.writeTargets t).drvflt = h.drvflt := rfl
@[simp] theorem Helio.writeTargets_assignment (h : Helio) (t : Steps) : (h.writeTargets t).assignment = h.assignment := rfl
@[simp] theorem Helio.writeTargets_deferred (h : Helio) (t : Steps) : (h.writeTargets t).deferred = h.deferred := rfl
@[simp] theorem Helio.writeTargets_placementP (h : Helio) (t : Steps) : (h.writeTargets t).placementP = h.placementP := rfl
@[simp] theorem Helio.writeTargets_limit (h : Helio) (t : Steps) : (h.writeTargets t).limit = h.limit := rfl
@[simp] theorem Helio.writeTargets_engaged (h : Helio) (t : Steps) : (h.writeTargets t).engaged = h.engaged := rfl
@[simp] theorem Helio.writeTargets_snapshot (h : Helio) (t : Steps) : (h.writeTargets t).snapshot = h.snapshot := rfl

@[simp] theorem Helio.leave_cfg (h : Helio) : (h.leave).cfg = h.cfg := by
  simp only [Helio.leave]; split <;> rfl
@[simp] theorem Helio.leave_dAz (h : Helio) : (h.leave).dAz = h.dAz := by
  simp only [Helio.leave]; split <;> rfl
@[simp] theorem Helio.leave_dEl (h : Helio) : (h.leave).dEl = h.dEl := by
  simp only [Helio.leave]; split <;> rfl
@[simp] theorem Helio.leave_inService (h : Helio) : (h.leave).inService = h.inService := by
  simp only [Helio.leave]; split <;> rfl
@[simp] theorem Helio.leave_homed (h : Helio) : (h.leave).homed = h.homed := by
  simp only [Helio.leave]; split <;> rfl
@[simp] theorem Helio.leave_fault (h : Helio) : (h.leave).fault = h.fault := by
  simp only [Helio.leave]; split <;> rfl
@[simp] theorem Helio.leave_countedP (h : Helio) : (h.leave).countedP = h.countedP := by
  simp only [Helio.leave]; split <;> rfl
@[simp] theorem Helio.leave_p (h : Helio) : (h.leave).p = h.p := by
  simp only [Helio.leave]; split <;> rfl
@[simp] theorem Helio.leave_c (h : Helio) : (h.leave).c = h.c := by
  simp only [Helio.leave]; split <;> rfl
@[simp] theorem Helio.leave_lastAz (h : Helio) : (h.leave).lastAz = h.lastAz := by
  simp only [Helio.leave]; split <;> rfl
@[simp] theorem Helio.leave_lastEl (h : Helio) : (h.leave).lastEl = h.lastEl := by
  simp only [Helio.leave]; split <;> rfl
@[simp] theorem Helio.leave_geom (h : Helio) : (h.leave).geom = h.geom := by
  simp only [Helio.leave]; split <;> rfl
@[simp] theorem Helio.leave_homing (h : Helio) : (h.leave).homing = h.homing := by
  simp only [Helio.leave]; split <;> rfl
@[simp] theorem Helio.leave_hold (h : Helio) : (h.leave).hold = h.hold := by
  simp only [Helio.leave]; split <;> rfl
@[simp] theorem Helio.leave_drvflt (h : Helio) : (h.leave).drvflt = h.drvflt := by
  simp only [Helio.leave]; split <;> rfl
@[simp] theorem Helio.leave_limit (h : Helio) : (h.leave).limit = h.limit := by
  simp only [Helio.leave]; split <;> rfl
@[simp] theorem Helio.leave_az (h : Helio) : (h.leave).az = h.az := by
  simp only [Helio.leave]; split <;> rfl
@[simp] theorem Helio.leave_el (h : Helio) : (h.leave).el = h.el := by
  simp only [Helio.leave]; split <;> rfl
@[simp] theorem Helio.leave_engaged (h : Helio) : (h.leave).engaged = h.engaged := by
  simp only [Helio.leave]; split <;> rfl

@[simp] theorem Helio.enter_cfg (h : Helio) (l : Level) : (h.enter l).cfg = h.cfg := by
  simp only [Helio.enter]; repeat' split
  all_goals rfl
@[simp] theorem Helio.enter_dAz (h : Helio) (l : Level) : (h.enter l).dAz = h.dAz := by
  simp only [Helio.enter]; repeat' split
  all_goals rfl
@[simp] theorem Helio.enter_dEl (h : Helio) (l : Level) : (h.enter l).dEl = h.dEl := by
  simp only [Helio.enter]; repeat' split
  all_goals rfl
@[simp] theorem Helio.enter_inService (h : Helio) (l : Level) : (h.enter l).inService = h.inService := by
  simp only [Helio.enter]; repeat' split
  all_goals rfl
@[simp] theorem Helio.enter_homed (h : Helio) (l : Level) : (h.enter l).homed = h.homed := by
  simp only [Helio.enter]; repeat' split
  all_goals rfl
@[simp] theorem Helio.enter_fault (h : Helio) (l : Level) : (h.enter l).fault = h.fault := by
  simp only [Helio.enter]; repeat' split
  all_goals rfl
@[simp] theorem Helio.enter_countedP (h : Helio) (l : Level) : (h.enter l).countedP = h.countedP := by
  simp only [Helio.enter]; repeat' split
  all_goals rfl
@[simp] theorem Helio.enter_p (h : Helio) (l : Level) : (h.enter l).p = h.p := by
  simp only [Helio.enter]; repeat' split
  all_goals rfl
@[simp] theorem Helio.enter_c (h : Helio) (l : Level) : (h.enter l).c = h.c := by
  simp only [Helio.enter]; repeat' split
  all_goals rfl
@[simp] theorem Helio.enter_lastAz (h : Helio) (l : Level) : (h.enter l).lastAz = h.lastAz := by
  simp only [Helio.enter]; repeat' split
  all_goals rfl
@[simp] theorem Helio.enter_lastEl (h : Helio) (l : Level) : (h.enter l).lastEl = h.lastEl := by
  simp only [Helio.enter]; repeat' split
  all_goals rfl
@[simp] theorem Helio.enter_geom (h : Helio) (l : Level) : (h.enter l).geom = h.geom := by
  simp only [Helio.enter]; repeat' split
  all_goals rfl
@[simp] theorem Helio.enter_homing (h : Helio) (l : Level) : (h.enter l).homing = h.homing := by
  simp only [Helio.enter]; repeat' split
  all_goals rfl
@[simp] theorem Helio.enter_hold (h : Helio) (l : Level) : (h.enter l).hold = h.hold := by
  simp only [Helio.enter]; repeat' split
  all_goals rfl
@[simp] theorem Helio.enter_drvflt (h : Helio) (l : Level) : (h.enter l).drvflt = h.drvflt := by
  simp only [Helio.enter]; repeat' split
  all_goals rfl
@[simp] theorem Helio.enter_assignment (h : Helio) (l : Level) : (h.enter l).assignment = h.assignment := by
  simp only [Helio.enter]; repeat' split
  all_goals rfl
@[simp] theorem Helio.enter_deferred (h : Helio) (l : Level) : (h.enter l).deferred = h.deferred := by
  simp only [Helio.enter]; repeat' split
  all_goals rfl
@[simp] theorem Helio.enter_placementP (h : Helio) (l : Level) : (h.enter l).placementP = h.placementP := by
  simp only [Helio.enter]; repeat' split
  all_goals rfl

@[simp] theorem Helio.reengage_cfg (h : Helio) (src : Sources) (l : Bool) : (h.reengage src l).cfg = h.cfg := by
  simp only [Helio.reengage]; (repeat' split) <;> first | rfl | simp
@[simp] theorem Helio.reengage_dAz (h : Helio) (src : Sources) (l : Bool) : (h.reengage src l).dAz = h.dAz := by
  simp only [Helio.reengage]; (repeat' split) <;> first | rfl | simp
@[simp] theorem Helio.reengage_dEl (h : Helio) (src : Sources) (l : Bool) : (h.reengage src l).dEl = h.dEl := by
  simp only [Helio.reengage]; (repeat' split) <;> first | rfl | simp
@[simp] theorem Helio.reengage_inService (h : Helio) (src : Sources) (l : Bool) : (h.reengage src l).inService = h.inService := by
  simp only [Helio.reengage]; (repeat' split) <;> first | rfl | simp
@[simp] theorem Helio.reengage_homed (h : Helio) (src : Sources) (l : Bool) : (h.reengage src l).homed = h.homed := by
  simp only [Helio.reengage]; (repeat' split) <;> first | rfl | simp
@[simp] theorem Helio.reengage_fault (h : Helio) (src : Sources) (l : Bool) : (h.reengage src l).fault = h.fault := by
  simp only [Helio.reengage]; (repeat' split) <;> first | rfl | simp
@[simp] theorem Helio.reengage_countedP (h : Helio) (src : Sources) (l : Bool) : (h.reengage src l).countedP = h.countedP := by
  simp only [Helio.reengage]; (repeat' split) <;> first | rfl | simp
@[simp] theorem Helio.reengage_p (h : Helio) (src : Sources) (l : Bool) : (h.reengage src l).p = h.p := by
  simp only [Helio.reengage]; (repeat' split) <;> first | rfl | simp
@[simp] theorem Helio.reengage_c (h : Helio) (src : Sources) (l : Bool) : (h.reengage src l).c = h.c := by
  simp only [Helio.reengage]; (repeat' split) <;> first | rfl | simp
@[simp] theorem Helio.reengage_lastAz (h : Helio) (src : Sources) (l : Bool) : (h.reengage src l).lastAz = h.lastAz := by
  simp only [Helio.reengage]; (repeat' split) <;> first | rfl | simp
@[simp] theorem Helio.reengage_lastEl (h : Helio) (src : Sources) (l : Bool) : (h.reengage src l).lastEl = h.lastEl := by
  simp only [Helio.reengage]; (repeat' split) <;> first | rfl | simp
@[simp] theorem Helio.reengage_geom (h : Helio) (src : Sources) (l : Bool) : (h.reengage src l).geom = h.geom := by
  simp only [Helio.reengage]; (repeat' split) <;> first | rfl | simp
@[simp] theorem Helio.reengage_homing (h : Helio) (src : Sources) (l : Bool) : (h.reengage src l).homing = h.homing := by
  simp only [Helio.reengage]; (repeat' split) <;> first | rfl | simp
@[simp] theorem Helio.reengage_hold (h : Helio) (src : Sources) (l : Bool) : (h.reengage src l).hold = h.hold := by
  simp only [Helio.reengage]; (repeat' split) <;> first | rfl | simp
@[simp] theorem Helio.reengage_drvflt (h : Helio) (src : Sources) (l : Bool) : (h.reengage src l).drvflt = h.drvflt := by
  simp only [Helio.reengage]; (repeat' split) <;> first | rfl | simp

/-! ## Recomputing a level -/

@[simp] theorem Helio.enter_engaged (h : Helio) (l : Level) : (h.enter l).engaged = l := by
  simp only [Helio.enter]; repeat' split
  all_goals rfl

/-- R67, R68: what governs a heliostat is read from five of its fields. -/
theorem Helio.governing_congr {h h' : Helio} (src : Sources) (l : Bool) (hp : h'.cfg.present = h.cfg.present)
    (hs : h'.inService = h.inService) (hf : h'.fault = h.fault) (hh : h'.homed = h.homed) (ho : h'.hold = h.hold) :
    h'.governing src l = h.governing src l := by
  have m : h'.masked l = h.masked l := by simp only [Helio.masked, Helio.usable, hp, hs, hf, hh]
  unfold Helio.governing
  rw [m, ho]

/-- R68: after its recomputation the engaged level is the one that governs. -/
@[simp] theorem Helio.reengage_engaged (h : Helio) (src : Sources) (l : Bool) :
    (h.reengage src l).engaged = h.governing src l := by
  simp only [Helio.reengage]; split <;> simp_all

/-- R68: a level that already governs changes nothing. -/
theorem Helio.reengage_of_engaged {h : Helio} {src : Sources} {l : Bool} (e : h.engaged = h.governing src l) :
    h.reengage src l = h := by
  simp [Helio.reengage, e]

/-- R70 to R72: the targets and the snapshot that an entered level writes. -/
theorem Helio.enter_spec (h : Helio) (l : Level) :
    ((l = .none ∨ l = .standby ∨ l = .track) → h.enter l = { h with engaged := l }) ∧
      (l = .stow → h.enter l = { h with
        engaged := .stow, az := h.az.writeTarget h.cfg.stow.az, el := h.el.writeTarget h.cfg.stow.el }) ∧
      (∀ t, l = .hold → h.hold = some t → h.enter l = { h with
        engaged := .hold, az := h.az.writeTarget t.az, el := h.el.writeTarget t.el }) ∧
      (l = .defocus → (h.enter l).snapshot = some (h.softSteps h.defocusPoint) ∧
        (h.enter l).az.target = h.az.soft h.az.position ∧
        (h.enter l).el.target = h.el.soft (h.el.position + h.cfg.defocusOffset)) := by
  refine ⟨?_, ?_, ?_, ?_⟩
  · rintro (e | e | e) <;> subst e <;> rfl
  · rintro rfl; rfl
  · rintro t rfl e; simp only [Helio.enter, e]; rfl
  · rintro rfl; simp [Helio.enter, Helio.writeTargets, Helio.softSteps, Helio.defocusPoint]

/-- R69: what a left level takes with it. -/
theorem Helio.leave_spec (h : Helio) :
    (h.engaged = .track → h.leave = unplaced h) ∧ (h.engaged = .defocus → h.leave = { h with snapshot := none }) ∧
      (h.engaged ≠ .track → h.engaged ≠ .defocus → h.leave = h) := by
  cases e : h.engaged <;> simp [Helio.leave, unplaced, e]

/-- R68 to R72: a recomputation either leaves the heliostat alone or leaves one level and enters another. -/
theorem Helio.reengage_cases (h : Helio) (src : Sources) (l : Bool) :
    (h.governing src l = h.engaged ∧ h.reengage src l = h) ∨
      (h.governing src l ≠ h.engaged ∧ h.reengage src l = h.leave.enter (h.governing src l)) := by
  by_cases e : h.governing src l = h.engaged
  · exact .inl ⟨e, by simp [Helio.reengage, e]⟩
  · exact .inr ⟨e, by simp [Helio.reengage, e]⟩

/-- R68 to R72: all that a recomputation can touch. -/
theorem Helio.reengage_frame (h : Helio) (src : Sources) (l : Bool) : LevelFrame h (h.reengage src l) := by
  have key : ∀ x : Helio, x.cfg = h.cfg → x.dAz = h.dAz → x.dEl = h.dEl → x.inService = h.inService →
      x.homed = h.homed → x.fault = h.fault → x.countedP = h.countedP → x.p = h.p → x.c = h.c →
      x.lastAz = h.lastAz → x.lastEl = h.lastEl → x.geom = h.geom → x.homing = h.homing → x.hold = h.hold →
      x.drvflt = h.drvflt → LevelFrame h x := by
    intro x; cases x; intros; simp_all [LevelFrame]
  apply key <;> simp

/-- A heliostat that is masked engages at NONE: it leaves its level and keeps its axes (R67, R69). -/
theorem Helio.reengage_masked (h : Helio) (src : Sources) (l : Bool) (m : h.masked l = true) :
    h.reengage src l =
      { (if h.engaged = .track then unplaced h else h) with
        engaged := .none, snapshot := if h.engaged = .defocus then none else h.snapshot } := by
  have g : h.governing src l = .none := by simp [Helio.governing, m]
  cases h with | mk =>
  rename_i e s d
  simp only [Helio.reengage, g]
  cases e <;> simp [Helio.leave, Helio.enter, unplaced]

/-! ## Faults and homing starts -/

/-- R6, R59: the first fault is recorded and stops both axes; a further one changes nothing. -/
theorem Helio.detect_cases (h : Helio) (k : HelioFault) :
    (h.fault ≠ .none ∧ h.detect k = h) ∨
      (h.fault = .none ∧ h.detect k = { h with
        fault := k, homed := false, deferred := none, placementP := 0, homing := none
        az := h.az.halt, el := h.el.halt }) := by
  by_cases e : h.fault = .none
  · exact .inr ⟨e, by simp [Helio.detect, e]⟩
  · exact .inl ⟨e, by simp [Helio.detect, e]⟩

/-- R59: a detected fault in a heliostat without one, and the level it then has. -/
theorem Helio.detect_reengage (h : Helio) (k : HelioFault) (src : Sources) (l : Bool)
    (e : h.fault = .none) : (h.detect k).reengage src l = faulted h k := by
  have d : h.detect k = { h with
      fault := k, homed := false, deferred := none, placementP := 0, homing := none
      az := h.az.halt, el := h.el.halt } := by simp [Helio.detect, e]
  rw [Helio.reengage_masked]
  · rw [d]; by_cases t : h.engaged = .track <;> simp [faulted, unplaced, t]
  · rw [d]; simp [Helio.masked]

/-- R54, R58: a homing start without an active DRVFLT. -/
theorem Helio.homingStart_of_quiet (h : Helio) (e : h.drvflt = false) : h.homingStart = homingBegun h := by
  simp [Helio.homingStart, homingBegun, e]

/-- R62, R69: a re-homed heliostat, from the check that admits it to the level it then has. -/
theorem Helio.rehome_reengage (h : Helio) (src : Sources) (l : Bool) (e : h.drvflt = false) :
    h.rehome.reengage src l = rehomed h := by
  have q : h.rehome = homingBegun { h with fault := .none } := Helio.homingStart_of_quiet _ e
  rw [q, Helio.reengage_masked]
  · by_cases t : h.engaged = .track <;> simp [rehomed, homingBegun, unplaced, t]
  · simp [Helio.masked, homingBegun]

/-- R14, R69: a heliostat taken out of service, with the level it then has. -/
theorem Helio.takeOut_reengage (h : Helio) (src : Sources) (l : Bool) : h.takeOut.reengage src l = outOfService h := by
  rw [Helio.reengage_masked]
  · by_cases e : h.engaged = .track <;> simp [outOfService, Helio.takeOut, unplaced, e] <;> rfl
  · simp [Helio.masked, Helio.takeOut, Helio.usable]

end Sys2Proof.Machine
end

