-- ==== Sys2Proof/Laws/Station.lean ====
section
/-! SUPPORT. The shared operations on the station: how a command is answered, what the status conditions read, how an own
frame is cut, and what one change of the station leaves. -/

namespace Sys2Proof.Machine

/-! ## Conditions and latches (R196, R197) -/

/-- R196: the status conditions read these fields and nothing else. -/
theorem State.conditions_congr {s t : State} (hb : t.bi.busLost = s.bi.busLost) (hm : t.bi.markLost = s.bi.markLost)
    (hs : t.sc.state = s.sc.state) (hr : t.running = s.running) (hn : t.src.sun = s.src.sun)
    (hx : t.rs.receiver.isNone = s.rs.receiver.isNone) (ha : t.dcu.active = s.dcu.active)
    (hc : t.irm.clouded = s.irm.clouded) (hz : t.fa.zoneSat = s.fa.zoneSat) (hp : t.sc.por = s.sc.por)
    (hh : t.helios = s.helios) : t.conditions = s.conditions := by
  have e : t.conditionList = s.conditionList := by
    simp only [State.conditionList, State.stowActive, State.stowComplete, State.helioFault, State.limitAny, hb, hm, hs,
      hr, hn, hx, ha, hc, hz, hp, hh]
  exact eq_of_heq (congr_arg_heq BitVec.ofBoolListLE e)

theorem State.running_congr {s t : State} (h : t.sc = s.sc) : t.running = s.running := by
  simp only [State.running, State.inReset, h]

theorem State.running_iff (s : State) : s.running = true ↔ s.inReset = false ∧ s.sc.state.loaded = true := by
  simp [State.running]

/-! ## Answers (R103, R104) -/

/-- R103, R104: an answer is one outcome and, where it is not DONE, one count. -/
theorem State.answer_spec (s : State) (k hf : Byte) (r : Result) :
    Answered s (s.answer k hf r) k hf r ∧ s.answer k hf r = { s with bi := (s.answer k hf r).bi } := by
  refine ⟨?_, rfl⟩
  simp only [Answered, State.answer, BusInterface.addOutcome, bump, satAdd, max16]
  by_cases h : s.bi.outcomes.length < 4
  · by_cases d : r = .done <;> simp [h, Nat.not_le.mpr h, d]
  · by_cases d : r = .done <;> simp [h, Nat.le_of_not_lt h, d]

/-- R103: an answer leaves the outcome queue with at most four records, the newest its own. -/
theorem State.answer_outcomes (s : State) (k hf : Byte) (r : Result) (h : s.bi.outcomes.length ≤ 4) :
    (s.answer k hf r).bi.outcomes.length ≤ 4 ∧
      (s.answer k hf r).bi.outcomes.getLast? = some ⟨k, hf, r, false⟩ := by
  simp only [State.answer, BusInterface.addOutcome]
  split
  · simp; omega
  · simp; omega

@[simp] theorem State.answer_conditions (s : State) (k hf : Byte) (r : Result) :
    (s.answer k hf r).conditions = s.conditions := by
  have e := (s.answer_spec k hf r).1
  apply State.conditions_congr <;> first | rfl | rw [e]

@[simp] theorem State.answer_running (s : State) (k hf : Byte) (r : Result) :
    (s.answer k hf r).running = s.running := rfl

/-- R103: an entry whose owner refuses it changes nothing beside its answer. -/
theorem State.takeCommand_refused (s : State) (k hf : Byte) (f : State → Result × State) (r : Result)
    (h : f s = (r, s)) : Refused s (s.takeCommand k hf f) k hf r := by
  have c : (s.change fun s => (f s).2) = s := by
    rw [State.change_eq, h]
    simp only [State.change, State.observed, h, AlertUnit.latch_self, ite_self]
  simp only [State.takeCommand, c, h]
  exact s.answer_spec k hf r

/-- R103, R197: a taken entry: its owner's effect, seen by the Alert Unit, and one answer. -/
theorem State.takeCommand_taken (s : State) (k hf : Byte) (f : State → Result × State) (r : Result) (u : State)
    (h : f s = (r, u)) (run : s.running = true) (run' : u.running = true) (b : u.bi = s.bi) (a : u.au = s.au) :
    Answered s (s.takeCommand k hf f) k hf r ∧ Latched s (s.takeCommand k hf f) ∧
      s.takeCommand k hf f = { u with bi := (s.takeCommand k hf f).bi, au := (s.takeCommand k hf f).au } := by
  have e : s.takeCommand k hf f = ({ u with au := s.au.latch s.conditions u.conditions } : State).answer k hf r := by
    simp [State.takeCommand, State.change, State.observed, h, run, run', a]
  rw [e]
  refine ⟨?_, ?_, rfl⟩
  · have := (State.answer_spec { u with au := s.au.latch s.conditions u.conditions } k hf r).1
    simp only [Answered, b] at this ⊢
    exact this
  · simp only [Latched, State.answer_au, State.answer_conditions]
    rfl

/-! ## Heliostat fields (R3, R14) -/

theorem State.presentIndex_of_present (s : State) (i : Fin 8) (h : s.helios[i].cfg.present = true) :
    s.presentIndex (BitVec.ofNat 8 i.val) = some i := by
  have e : (BitVec.ofNat 8 i.val).toNat = i.val := by simp [BitVec.toNat_ofNat]; omega
  have : helioIndex (BitVec.ofNat 8 i.val) = some i := by
    simp only [helioIndex, e, i.isLt, dif_pos]
  simp only [State.presentIndex, this]
  rw [if_pos h]

theorem State.presentIndex_of_absent (s : State) (hf : Byte)
    (h : ∀ i : Fin 8, hf.toNat = i.val → s.helios[i].cfg.present = false) : s.presentIndex hf = none := by
  simp only [State.presentIndex, helioIndex]
  split
  · rfl
  · rename_i i e
    split at e
    · cases e
      exact if_neg (Bool.eq_false_iff.mp (h ⟨hf.toNat, ‹_›⟩ rfl))
    · cases e

/-! ## The end of an own frame (R97, R100, R101) -/

/-- R101: what a cut frame leaves: nothing where the buffer is empty, else no placement, no mark, and the plan kept. -/
theorem State.cutFrame_cases (s : State) :
    (s.bi.tx.phase = .empty ∧ s.cutFrame = s) ∨
      (s.bi.tx.phase = .built ∧ s.cutFrame = s.discardFrame) ∨
      (s.bi.tx.phase = .sending ∧ s.cutFrame = s.abortFrame) := by
  cases e : s.bi.tx.phase <;> simp [State.cutFrame, e]

/-- R97, R101: an aborted frame is a discarded one, counted, with the receiver's idle time counted afresh (R90). -/
theorem State.abortFrame_spec (s : State) :
    s.abortFrame = { s.discardFrame with bi := { s.discardFrame.bi with
      counters := { s.bi.counters with aborts := bump s.bi.counters.aborts }, rx := s.bi.rx.abandon } } := rfl

/-- R90: only the own frame in reception loses the character being read. -/
theorem Receiver.abandon_cases (rx : Receiver) :
    (rx.own = true ∧ rx.abandon = { rx with char := none, idle := 0 }) ∨ (rx.own = false ∧ rx.abandon = rx) := by
  cases h : rx.own <;> simp [Receiver.abandon, h]

/-- R90: an abort touches of the receiver the character being read and the idle bits. -/
theorem Receiver.abandon_frame (rx : Receiver) :
    rx.abandon = { rx with char := rx.abandon.char, idle := rx.abandon.idle } := by
  simp only [Receiver.abandon]; split <;> rfl

/-- R97, R100, R101: what a cut leaves of the Bus Interface where there is a frame. -/
theorem State.cutFrame_bi (s : State) (h : s.bi.tx.phase ≠ .empty) : s.cutFrame.bi = cutBus s.bi := by
  rcases s.cutFrame_cases with ⟨e, _⟩ | ⟨p, e⟩ | ⟨p, e⟩
  · exact absurd e h
  · rw [e]; simp [cutBus, State.discardFrame, Transmitter.emptied, p]
  · rw [e]
    by_cases o : s.bi.rx.own = true <;>
      simp [cutBus, State.abortFrame, State.count, State.discardFrame, Transmitter.emptied, Receiver.abandon, bump, satAdd,
        max16, p, o]

theorem State.discardFrame_helio (s : State) (i : Nat) (hi : i < 8) :
    s.discardFrame.helios[i] = { s.helios[i] with deferred := none, placementP := 0 } := by
  simp [State.discardFrame]

end Sys2Proof.Machine
end

