-- ==== Sys2Proof/Laws/Allocation.lean ====
section
/-! SUPPORT. The Flux Allocator (chapter 9): budgets, one heliostat of each pass, placements, plans. -/

namespace Sys2Proof.Machine

/-! ## Lists of items -/

@[simp] theorem plannedFor_nil (z : Nat) : plannedFor [] z = 0 := rfl

theorem plannedFor_cons (i : PlanItem) (l : List PlanItem) (z : Nat) :
    plannedFor (i :: l) z = if i.zone = z then i.planned else plannedFor l z := by
  by_cases h : i.zone = z <;> simp [plannedFor, itemFor, h]

/-- A list built for the zones of a set holds for each of them what it was built with. -/
theorem plannedFor_map (zones : List Nat) (f : Nat → Nat) (g : Nat → Bool) (z : Nat) :
    plannedFor (zones.map fun z => { zone := z, planned := f z, want := g z }) z = if z ∈ zones then f z else 0 := by
  induction zones with
  | nil => rfl
  | cons y rest ih =>
    rw [List.map_cons, plannedFor_cons, ih]
    by_cases h : y = z
    · simp [h]
    · have : z ≠ y := fun e => h e.symm
      simp [h, this]

/-- R174: the published plan of a zone of interest is what the frame carried for it. -/
theorem plannedFor_publishedPlan (interest : List Nat) (carried : List PlanItem) (z : Nat) :
    plannedFor (publishedPlan interest carried) z = if z ∈ interest then plannedFor carried z else 0 :=
  plannedFor_map interest (plannedFor carried) (wantFor carried) z

/-! ## Windows and allowances (R157 to R166) -/

/-- R157 to R161: a window ends only where its timer has come round, and then everything but `running` is set anew. -/
theorem IrradianceMonitor.endWindow_cases (irm : IrradianceMonitor) (cfg : StationConfig) :
    (irm.windowOver = false ∧ irm.endWindow cfg = irm) ∨
      (irm.windowOver = true ∧ irm.running = true ∧ 249999 ≤ irm.timer ∧
        let m := measuredDni irm.pulses cfg.dniScale
        let h := nextPlanning m irm.h cfg.dniDecay cfg.dniFloor
        irm.endWindow cfg = { irm with
          timer := 0, pulses := 0, m := m, h := h, clouded := cloudedTest m h cfg.cloudRatio }) := by
  cases e : irm.windowOver
  · exact .inl ⟨rfl, by simp [IrradianceMonitor.endWindow, e]⟩
  · have h := e
    simp only [IrradianceMonitor.windowOver, Bool.and_eq_true, decide_eq_true_eq] at h
    exact .inr ⟨rfl, h.1, h.2, by simp only [IrradianceMonitor.endWindow, e, if_true]⟩

/-- R164: this station is always a claimant. -/
theorem PeerTable.claimants_pos (pt : PeerTable) (z : Nat) : 1 ≤ pt.claimants z := Nat.le_add_right 1 _

/-- R166: the allowance of a zone is never above its headroom. -/
theorem State.allowance_le_headroom (s : State) (z : Nat) : s.allowance z ≤ s.headroom z := by
  simp only [State.allowance]
  split
  · exact Nat.le_refl _
  · have := Nat.div_le_self (s.headroom z - s.published z) (s.pt.claimants z)
    omega

/-! ## Budgets (R168 to R170) -/

theorem budgetFor_zone {bs : List ZoneBudget} {z : Nat} {b : ZoneBudget} (h : budgetFor bs z = some b) : b.zone = z := by
  simpa using List.find?_some h

/-- R169, R170: a spend reduces the budget of its zone. -/
theorem budgetFor_spend (bs : List ZoneBudget) (z p : Nat) (keep : Bool) (y : Nat) :
    budgetFor (spend bs z p keep) y = (budgetFor bs y).map fun b =>
      if b.zone = z then
        { b with remaining := b.remaining - p, keepRoom := if keep then b.keepRoom - p else b.keepRoom }
      else b := by
  induction bs with
  | nil => rfl
  | cons b rest ih =>
    simp only [budgetFor, spend, List.map_cons] at ih ⊢
    by_cases h : b.zone = y
    · have e : ∀ x : ZoneBudget, x.zone = y → List.find? (fun b => b.zone == y) (x :: List.map (fun b =>
          if b.zone = z then
            { b with remaining := b.remaining - p, keepRoom := if keep then b.keepRoom - p else b.keepRoom }
          else b) rest) = some x := by intro x hx; simp [hx]
      rw [e, List.find?_cons_of_pos (by simpa using h)]
      · rfl
      · split <;> exact h
    · have e : (if b.zone = z then
          { b with remaining := b.remaining - p, keepRoom := if keep then b.keepRoom - p else b.keepRoom }
          else b).zone ≠ y := by split <;> exact h
      rw [List.find?_cons_of_neg (by simpa using e), List.find?_cons_of_neg (by simpa using h)]
      exact ih

/-- R169: the keep pass keeps a heliostat within both budgets of its zone, or puts it on standby. -/
theorem keepOne_cases (cfg : StationConfig) (ps : PassState) (i : Fin 8) :
    (∃ b, keepBudget cfg ps.budgets ps.helios[i] = some b ∧ keepOne cfg ps i =
      { ps with
        helios := ps.helios.set i { ps.helios[i] with countedP := ps.helios[i].p }
        budgets := spend ps.budgets b.zone ps.helios[i].p true }) ∨
    (keepBudget cfg ps.budgets ps.helios[i] = none ∧ keepOne cfg ps i =
      { ps with helios := ps.helios.set i { ps.helios[i] with assignment := none } }) := by
  cases h : keepBudget cfg ps.budgets ps.helios[i] with
  | none => exact .inr ⟨rfl, by simp only [keepOne, h]⟩
  | some b => exact .inl ⟨b, rfl, by simp only [keepOne, h]⟩

/-- R169: a kept heliostat has its P within the remaining and the keep room of the zone of its aim point. -/
theorem keepBudget_some {cfg : StationConfig} {bs : List ZoneBudget} {h : Helio} {b : ZoneBudget}
    (e : keepBudget cfg bs h = some b) :
    ∃ ap, h.assignment = some ap ∧ cfg.zoneOf ap = some b.zone ∧ budgetFor bs b.zone = some b ∧
      h.p ≤ b.remaining ∧ h.p ≤ b.keepRoom := by
  simp only [keepBudget] at e
  split at e
  · cases e
  · rename_i ap ha
    split at e
    · cases e
    · rename_i z hz
      split at e
      · cases e
      · rename_i c hc
        split at e
        · rename_i hp
          cases e
          have := budgetFor_zone hc
          subst this
          exact ⟨ap, ha, hz, hc, hp.1, hp.2⟩
        · cases e

/-- R170: a placeable candidate has a zone of interest with the remaining for it. -/
theorem placeable_spec {cfg : StationConfig} {bs : List ZoneBudget} {p ap : Nat} (h : placeable cfg bs p ap = true) :
    ∃ z b, cfg.zoneOf ap = some z ∧ budgetFor bs z = some b ∧ p ≤ b.remaining := by
  simp only [placeable] at h
  split at h
  · cases h
  · rename_i z hz
    split at h
    · cases h
    · rename_i b hb
      exact ⟨z, b, hz, hb, by simpa using h⟩

/-! ## Completion (R174, R197) -/

/-- R174: a placement still held is applied, and nothing else of the heliostat changes. -/
theorem Helio.applyPlacement_cases (h : Helio) :
    (h.deferred = none ∧ h.applyPlacement = h) ∨
      ∃ ap, h.deferred = some ap ∧ h.applyPlacement = { h with
        assignment := some ap, countedP := h.placementP, deferred := none, placementP := 0 } := by
  cases e : h.deferred with
  | none => exact .inl ⟨rfl, by simp [Helio.applyPlacement, e]⟩
  | some ap => exact .inr ⟨ap, rfl, by simp [Helio.applyPlacement, e]⟩

theorem State.completeFrame_helio (s : State) (i : Nat) (hi : i < 8) :
    s.completeFrame.helios[i] = s.helios[i].applyPlacement := by
  simp [State.completeFrame, State.publish]

end Sys2Proof.Machine
end

