-- ==== Sys2Proof/Laws/Frames.lean ====
section
/-! SUPPORT. Frames (R90 to R94, R102, R201): which are taken, how the entries of a COMMAND frame are run through, and the
two byte forms that every layout rests on. -/

namespace Sys2Proof.Machine

/-! ## Bytes (R201) -/

theorem halfBytes_length (n : Nat) : (halfBytes n).length = 2 := rfl

/-- A two-byte field is read back modulo 65,536. -/
theorem half_halfBytes (n : Nat) : half (BitVec.ofNat 8 n) (BitVec.ofNat 8 (n / 256)) = BitVec.ofNat 16 n := by
  apply BitVec.eq_of_toNat_eq
  simp only [half, BitVec.toNat_append, BitVec.toNat_ofNat]
  rw [Nat.shiftLeft_eq, Nat.mul_comm, ← Nat.two_pow_add_eq_or_of_lt (Nat.mod_lt _ (by decide))]
  omega

/-- R201: a run of bytes with its CRC holds its CRC. -/
theorem crcHolds_withCrc (bytes : List Byte) : crcHolds (withCrc bytes) = true := by
  have e : (withCrc bytes).length - 2 = bytes.length := by simp [withCrc, halfBytes_length]
  simp only [crcHolds, e]
  simp [withCrc]

/-! ## Frames taken (R90 to R92) -/

/-- A frame that is not accepted changes nothing. -/
theorem State.receiveBody_of_not_accepts {s : State} {slot : Nat} (h : s.accepts slot = false) (body : FrameBody) :
    s.receiveBody slot body = s := by simp [State.receiveBody, h]

/-- R91, R92: a frame whose fields pass the checks is taken. -/
theorem State.receiveBody_taken {s : State} {slot : Nat} (h : s.accepts slot = true) {body : FrameBody}
    (f : body.fails slot = none) : s.receiveBody slot body = s.takeFrame slot body := by
  simp [State.receiveBody, h, f]

/-- R90: a frame of another slot than the own is never exempt. -/
theorem State.exempt_of_ne {s : State} {slot : Nat} (h : slot ≠ s.sc.number) (past : Option Bool) :
    s.exempt slot past = false := by simp [State.exempt, h]

/-- R90, R92: a frame is accepted only from the end of a load that passes until the next reset. -/
theorem State.running_of_accepts {s : State} {slot : Nat} (h : s.accepts slot = true) : s.running = true := by
  simp only [State.accepts, Bool.and_eq_true] at h
  exact h.1.1.1

/-! ## Command entries (R102) -/

theorem State.takeEntries_nil (s : State) : s.takeEntries [] = s := rfl

/-- R102: an entry for another station is passed over; an addressed one is taken, and ends the frame where it resets. -/
theorem State.takeEntries_cons (s : State) (e : CommandEntry) (rest : List CommandEntry) :
    (s.addressed e = false → s.takeEntries (e :: rest) = s.takeEntries rest) ∧
      (s.addressed e = true → restartsStation e = false →
        s.takeEntries (e :: rest) = (s.takeEntry e).takeEntries rest) ∧
      (s.addressed e = true → restartsStation e = true → s.takeEntries (e :: rest) = s.takeEntry e) := by
  refine ⟨fun a => ?_, fun a r => ?_, fun a r => ?_⟩ <;> simp [State.takeEntries, *]

end Sys2Proof.Machine
end

