-- ==== Sys2Proof/Laws/Peers.lean ====
section
/-! SUPPORT. The Peer Table (chapter 8): ways of a set, the four outcomes of a lookup, ageing, and the interest set. -/

namespace Sys2Proof.Machine

@[simp] theorem PeerSet.way_setWay (st : PeerSet) (w : Bool) (e : Option PeerEntry) : (st.setWay w e).way w = e := by
  cases w <;> rfl

@[simp] theorem PeerSet.way_setWay_other (st : PeerSet) (w : Bool) (e : Option PeerEntry) :
    (st.setWay w e).way (!w) = st.way (!w) := by cases w <;> rfl

@[simp] theorem PeerSet.setWay_lru (st : PeerSet) (w : Bool) (e : Option PeerEntry) : (st.setWay w e).lru = st.lru := by
  cases w <;> rfl

/-- R144, R147: a written way holds the station at age 0, and the LRU bit names the other way. -/
theorem PeerSet.write_eq (st : PeerSet) (w : Bool) (station : Nat) (items : List PlanItem) :
    st.write w station items = written st w station items := rfl

/-- R143: a hit names a way that holds the station. -/
theorem PeerSet.hit_spec (st : PeerSet) (station : Nat) (w : Bool) (h : st.hit station = some w) :
    ∃ e, st.way w = some e ∧ e.station = station := by
  simp only [PeerSet.hit] at h
  split at h
  · cases h
    rename_i e
    simp only [holdsStation] at e
    split at e
    · cases e
    · rename_i x k
      exact ⟨x, k, by simpa using e⟩
  · split at h
    · cases h
      rename_i e
      simp only [holdsStation] at e
      split at e
      · cases e
      · rename_i x k
        exact ⟨x, k, by simpa using e⟩
    · cases h

/-- R147: the victim is the invalid way of a set with one, else the way that the LRU bit names. -/
theorem PeerSet.victim_spec (st : PeerSet) :
    (st.way0 = none ∧ st.way1 ≠ none → st.victim = false) ∧ (st.way0 ≠ none ∧ st.way1 = none → st.victim = true) ∧
      ((st.way0 = none ↔ st.way1 = none) → st.victim = st.lru) := by
  cases h0 : st.way0 <;> cases h1 : st.way1 <;> simp [PeerSet.victim, h0, h1]

/-- R143 to R147: a lookup rewrites, invalidates or fills one way, or changes nothing. -/
theorem State.lookUpPeer_cases (s : State) (station : Nat) (items : List PlanItem) :
    let i := peerSetOf station
    let st := s.pt.sets[i]
    (∃ w, st.hit station = some w ∧ items ≠ [] ∧
      s.lookUpPeer station items = s.setPeerSet i (written st w station items)) ∨
    (∃ w, st.hit station = some w ∧ items = [] ∧
      s.lookUpPeer station items = s.setPeerSet i { (st.setWay w none) with lru := w }) ∨
    (st.hit station = none ∧ items = [] ∧ s.lookUpPeer station items = s) ∨
    (st.hit station = none ∧ items ≠ [] ∧ s.lookUpPeer station items =
      (s.evict (st.way st.victim)).setPeerSet i (written st st.victim station items)) := by
  simp only [State.lookUpPeer]
  cases h : (s.pt.sets[peerSetOf station]).hit station with
  | none => cases items <;> simp [PeerSet.write_eq]
  | some w => cases items <;> simp [PeerSet.write_eq, PeerSet.invalidate]

/-- R148: an eviction changes the residue and ZONE-SAT and nothing else. -/
theorem State.evict_frame (s : State) (e : Option PeerEntry) :
    s.evict e = { s with
      pt := { s.pt with residue := (s.evict e).pt.residue }, fa := { s.fa with zoneSat := (s.evict e).fa.zoneSat } } := by
  cases e <;> rfl

/-- R150: what the age test leaves is fresh. -/
theorem freshPeer_expireEntry (maxAge : Nat) (e : Option PeerEntry) : freshPeer maxAge (expireEntry maxAge e) = true := by
  cases e with
  | none => rfl
  | some e =>
    simp only [expireEntry]
    split
    · rfl
    · simpa [freshPeer] using ‹¬maxAge < e.age›

/-- R112: what the age test leaves is fresh. -/
theorem freshSun_expireSun (now : BitVec 32) (horizon : Nat) (r : Option SunRecord) :
    freshSun now horizon (expireSun now horizon r) = true := by
  cases r with
  | none => rfl
  | some r =>
    simp only [expireSun]
    split
    · rfl
    · simpa [freshSun] using ‹¬horizon < ageOf now r.epoch›

/-- R150: after an epoch start no valid entry is above its age. -/
theorem PeerTable.atEpoch_fresh (pt : PeerTable) (maxAge : Nat) (now : BitVec 32) (i : Nat) (hi : i < 32) :
    freshPeer maxAge ((pt.atEpoch maxAge now).sets[i]).way0 = true ∧
      freshPeer maxAge ((pt.atEpoch maxAge now).sets[i]).way1 = true := by
  simp only [PeerTable.atEpoch, getElem_mapEach, PeerSet.expireWay, PeerSet.setWay, PeerSet.way]
  exact ⟨freshPeer_expireEntry _ _, freshPeer_expireEntry _ _⟩

/-- R13: an entry that follows the interest set keeps its station and its age, or is invalidated. -/
theorem restrictEntry_cases (zones : List Nat) (e : Option PeerEntry) :
    restrictEntry zones e = none ∨
      ∃ x y, e = some x ∧ restrictEntry zones e = some y ∧ y.age = x.age ∧ y.station = x.station := by
  cases e with
  | none => exact .inl rfl
  | some e =>
    simp only [restrictEntry]
    split
    · exact .inl rfl
    · exact .inr ⟨_, _, rfl, rfl, rfl, rfl⟩

end Sys2Proof.Machine
end

