-- ==== Sys2Proof/Laws/Tick.lean ====
section
/-! SUPPORT. Steps: the two cases of a step, what one microsecond advances, and that ordering the events of one instant
loses none of them. -/

namespace Sys2Proof.Machine

/-- A step takes the front of the queue. -/
theorem step_cons {s : State} {c : Instr} {rest : List Instr} (h : s.pending = c :: rest) :
    step s = exec c { s with pending := rest } := by
  simp [step, h]

/-- On an empty queue a step is one microsecond. -/
theorem step_nil {s : State} (h : s.pending = []) : step s = .next s.tick := by
  simp [step, h]

theorem mem_placeGroup {rank : Nat → Nat} {g x : Nat × List Instr} {l : List (Nat × List Instr)} :
    x ∈ placeGroup rank g l ↔ x = g ∨ x ∈ l := by
  induction l with
  | nil => simp [placeGroup]
  | cons h rest ih =>
    simp only [placeGroup]
    split
    · simp
    · simp only [List.mem_cons, ih]
      tauto

/-- R20: the order of one instant is a rearrangement of its groups: every event of every group joins the queue. -/
theorem mem_orderGroups (rank : Nat → Nat) (groups : List (List Instr)) (c : Instr) :
    c ∈ orderGroups rank groups ↔ ∃ g ∈ groups, c ∈ g := by
  have key : ∀ (l : List (Nat × List Instr)) (x : Nat × List Instr), x ∈ l.foldr (placeGroup rank) [] ↔ x ∈ l := by
    intro l x
    induction l with
    | nil => simp
    | cons g rest ih => simp [mem_placeGroup, ih]
  simp only [orderGroups, List.mem_flatMap, key, List.mem_map]
  constructor
  · rintro ⟨x, ⟨g, hg, rfl⟩, hc⟩
    exact ⟨g.1, List.fst_mem_of_mem_zipIdx hg, hc⟩
  · rintro ⟨g, hg, hc⟩
    obtain ⟨n, hn, e⟩ := List.mem_iff_getElem.mp hg
    refine ⟨_, ⟨(g, n), ?_, rfl⟩, hc⟩
    rw [List.mem_zipIdx_iff_getElem?]
    simp [hn, e]

/-- R192: while a reset is in force a microsecond changes nothing. -/
theorem State.tick_inReset {s : State} (h : s.inReset = true) : s.tick = s := by simp [State.tick, h]

/-- A microsecond advances the clocks and fills the queue. -/
theorem State.tick_running {s : State} (h : s.inReset = false) :
    s.tick = { s.advance (Config.lineLevel s.draws s.drive) with
      pending := s.markTickDue ++
        orderGroups (Config.tieRank s.draws) (s.dueGroups (Config.lineLevel s.draws s.drive)) } := by
  simp [State.tick, h]

/-- R19: no tick of an epoch start joins the queue where none is due. -/
@[simp] theorem State.markTickDue_of_not_due {s : State} (h : s.acu.due = none) : s.markTickDue = [] := by
  simp [State.markTickDue, dueIf, h]

/-- R116: the tick of a mark's epoch start, where still due, comes before every event of the microsecond. -/
theorem State.tick_markTick {s : State} {sun : Option Vec3} (h : s.inReset = false) (hd : s.acu.due = some sun)
    (ht : s.acu.tick = none) : ∃ rest, s.tick.pending = Instr.aimTick 0 s.firstStop :: rest := by
  rw [State.tick_running h]
  exact ⟨_, by simp [State.markTickDue, dueIf, hd, ht]; rfl⟩

/-- R116: the tick of an epoch start reaches what the epoch start's evaluation found. -/
theorem State.tickSun_of_due {s : State} {sun : Option Vec3} (h : s.acu.due = some sun) : s.tickSun 0 = sun := by
  simp [State.tickSun, h]

/-- R113: any other tick makes its own evaluation. -/
@[simp] theorem State.tickSun_of_offset (s : State) {offset : Nat} (h : offset ≠ 0) :
    s.tickSun offset = s.evalSun offset := by
  simp [State.tickSun, h]

/-- R90: the slot that ends is the one the timer showed. -/
theorem BusInterface.endedSlot_spec (bi : BusInterface) (f : FrameSlot) (h : bi.endedSlot = some f) :
    f = { number := bi.timer / 5000, past := none } ∧ nextTimer bi.timer / 5000 ≠ bi.timer / 5000 := by
  simp only [BusInterface.endedSlot] at h
  split at h
  · cases h
  · exact ⟨(Option.some.inj h).symm, ‹_›⟩

/-- R44: a microsecond changes one item of an axis, its counter. -/
theorem Axis.advance_frame (a : Axis) : a.advance = { a with counter := a.advance.counter } := by
  simp only [Axis.advance]; split <;> rfl

end Sys2Proof.Machine
end

