-- ==== Sys2Proof/Tests/Slice0.lean ====
section
/-! SUPPORT. Tests of single commands on small states, with expected values from the worked sequences and the tables of
spec/, the smoke test of WellFormed, and a witness for the hypotheses of every statement. -/

namespace Sys2Proof.Tests

open Sys2Proof.Machine

/-! ## Well-formed commands: an ill-formed term for each check -/

theorem test_wellFormed_refuses_unreserved_kind : (Instr.reservedCommand 15 255).wellFormed = false := by decide

theorem test_wellFormed_refuses_zone_counts :
    (Instr.receiverFrame 0 2 []).wellFormed = false ∧
      (Instr.receiverFrame 0 2 (List.replicate 33 ⟨0, 0⟩)).wellFormed = false := by decide

theorem test_wellFormed_refuses_senders :
    (Instr.contributionFrame 7 1 []).wellFormed = false ∧ (Instr.contributionFrame 400 1 []).wellFormed = false ∧
      (Instr.contributionFrame 8 1 (List.replicate 9 ⟨0, 0, false⟩)).wellFormed = false := by decide

theorem test_wellFormed_refuses_entry_counts :
    (Instr.commandFrame 0 []).wellFormed = false ∧
      (Instr.commandFrame 0 (List.replicate 9 ⟨0, 1, 255, 0, 0⟩)).wellFormed = false := by decide

theorem test_wellFormed_refuses_raw_frames :
    (Instr.frameDropped ⟨400, none, true, 1, [6]⟩).wellFormed = false ∧
      (Instr.frameDropped ⟨3, none, true, 0, []⟩).wellFormed = false ∧
      (Instr.frameDropped ⟨3, none, true, 2, [6]⟩).wellFormed = false := by decide

theorem test_wellFormed_refuses_slots :
    (Instr.slotStart 0).wellFormed = false ∧ (Instr.slotStart 400).wellFormed = false := by decide

theorem test_wellFormed_refuses_ticks :
    (Instr.aimTick 100 8).wellFormed = false ∧ (Instr.aimTick 2000 8).wellFormed = false ∧
      (Instr.aimTick 0 9).wellFormed = false := by decide

theorem test_wellFormed_refuses_long_images :
    (Instr.loadEnd 0 (List.replicate 4097 255)).wellFormed = false := by
  rw [Instr.wellFormed, List.length_replicate]; rfl

theorem test_wellFormed_accepts_ends_of_ranges :
    (Instr.slotStart 399).wellFormed = true ∧ (Instr.contributionFrame 8 1 []).wellFormed = true ∧
      (Instr.reservedCommand 16 0).wellFormed = true ∧ (Instr.aimTick 1750 8).wellFormed = true ∧
      (Instr.aimTick 0 0).wellFormed = true := by decide

/-- The table gives no row bits, so no word spells a command and the state is left as it is. -/
theorem test_decode_no_word_spells_a_command :
    decodeTableWord 8 1 = none ∧ State.reset.withFetchWord 8 1 = State.reset := by decide

/-! ## A small station: two heliostats present, the first homed and at TRACK, the second not homed -/

def prm : AxisParams :=
  { zero := 0, spt := 65536, softMin := -1000, softMax := 1000, startPeriod := 500, slewPeriod := 100, trackPeriod := 800
    homePeriod := 700, rampDec := 100, pulseWidth := 5, fineWindow := 20, backlash := 2, indexPos := -400, slipTol := 10
    homeMax := 2 }

def axis : Axis := { Axis.blank with prm := prm }

def helio : Helio :=
  { Helio.blank with
    cfg := { HelioConfig.blank with
      present := true, pivot := ⟨0, 8000, 0⟩, area := 160, delivery := 224, candidates := [0, 1]
      initialIn := true, defocusOffset := 300, stow := ⟨0, 900⟩ }
    inService := true, homed := true, engaged := .track, az := axis, el := axis }

def unhomed : Helio := { helio with engaged := .none, homed := false }

def bank (h0 h1 : Helio) : Vector Helio 8 := Vector.ofFn fun i => if i = 0 then h0 else if i = 1 then h1 else .blank

def cfg : StationConfig :=
  { StationConfig.blank with
    aims := [⟨5, ⟨0, 0, 6000⟩⟩, ⟨6, ⟨0, 0, 6200⟩⟩], standby := ⟨0, 0, 9000⟩, aimPeriod := 250, sunHorizon := 8
    nightSu := -286, dawnSu := 286, rxStale := 2, peerAgeMax := 2, isoEpochs := 3, dniScale := 40, dniDecay := 20
    dniFloor := 790, dniDesign := 850, cloudRatio := 230, activate := [false, true, true, false, true, false]
    release := [false, false, true, false, true, true, true], detectReps := 1000, genMs := 40 }

def station : State :=
  { State.reset with
    cfg := cfg, helios := bank helio unhomed, interest := [5, 6], src := .none
    pt := { PeerTable.blank with residue := [⟨5, 0, 0⟩, ⟨6, 0, 0⟩] }
    fa := { FluxAllocator.blank with plan := [⟨5, 300, false⟩, ⟨6, 0, false⟩] }
    irm := { IrradianceMonitor.blank with running := true, h := 850 }
    sc := { StationController.blank with state := .operating, number := 57, por := false }
    au := { AlertUnit.blank with enable := 0x1FFF }
    acu := { AimUnit.blank with scheduled := true }, straps := 57 }

/-- The station with its first heliostat replaced. -/
def with0 (h : Helio) : State := { station with helios := bank h unhomed }

/-- The station in another state. -/
def inState (st : StationState) : State := { station with sc := { station.sc with state := st } }

/-- The station with its transmit buffer in a phase. -/
def inPhase (p : TxPhase) : State := { station with bi := { station.bi with tx := { station.bi.tx with phase := p } } }

def after (s : State) (c : Instr) : State :=
  match exec c s with
  | .next t => t
  | .fault _ | .refused _ => s

/-- The newest outcome. -/
def answer (s : State) : Option Result := s.bi.outcomes.getLast?.map fun o => o.result

/-- Section 2.11: the heliostat of station 57, its two axes and its tick. -/
def worked : State :=
  { with0 { helio with
      cfg := { helio.cfg with pivot := ⟨0, 80000, 0⟩, candidates := [0] }
      assignment := some 0, dAz := 12, dEl := -7
      az := { axis with prm := { prm with zero := 32768, spt := 2000000, softMin := -900000, softMax := 900000 }
                        target := 350 }
      el := { axis with prm := { prm with spt := 2400000, softMin := -10000, softMax := 600000 } } } with
    cfg := { cfg with aims := [⟨5, ⟨0, 0, 60000⟩⟩] }
    acu := { tick := some { sun := ⟨0, -14189, 8192⟩, turn := 0, micros := 0 }, due := none, scheduled := true } }

/-! ## Command entries -/

/-- R70, R77: the stow posture of the record becomes the target. -/
theorem test_stowField_sends_to_the_stow_posture :
    (after station (.stowField 255)).helios[0].engaged = .stow ∧
      (after station (.stowField 255)).helios[0].el.target = 900 := by decide

/-- R76, R103, R132: the outcome carries the field as received, 0xFF where the entry passes. -/
theorem test_outcomes_carry_the_heliostat_field :
    (after station (.stowField 3)).bi.outcomes = [⟨1, 3, .range, false⟩] ∧
      (after station (.stowField 255)).bi.outcomes = [⟨1, 255, .done, false⟩] ∧
      (after station (.defocusRelease 3)).bi.outcomes = [⟨11, 3, .range, false⟩] ∧
      (after station (.clearAlerts 3)).bi.outcomes = [⟨12, 3, .range, false⟩] := by decide

/-- R78, section 4.9: nothing to release answers STATE. -/
theorem test_stowRelease_without_a_demand_is_state : answer (after station (.stowRelease 255)) = some .state := by decide

theorem test_standby_is_set_and_cleared :
    (after station (.standbySet 255)).helios[0].engaged = .standby ∧
      (after (after station (.standbySet 255)) (.standbyClear 255)).helios[0].engaged = .track := by decide

/-- R73, section 4.9: a target beyond a soft limit is clamped and sets LIMIT. -/
theorem test_hold_clamps_its_target :
    (after station (.hold 0 366 5000)).helios[0].hold = some ⟨366, 1000⟩ ∧
      (after station (.hold 0 366 5000)).helios[0].limit = true := by decide

/-- R74: a second HOLD for a heliostat that still moves is BUSY. -/
theorem test_hold_of_a_moving_heliostat_is_busy :
    answer (after (after station (.hold 0 366 500)) (.hold 0 0 0)) = some .busy := by decide

theorem test_holdRelease_returns_to_track :
    (after (after station (.hold 0 0 0)) (.holdRelease 0)).helios[0].engaged = .track ∧
      answer (after station (.holdRelease 0)) = some .state := by decide

/-- R12, R14: the zones of a heliostat that is OUT leave the interest set. -/
theorem test_serviceOut_shrinks_the_interest_set :
    (after (after station (.serviceOut 0)) (.serviceOut 1)).interest = [] ∧
      (after station (.serviceOut 0)).helios[0].posture = .out := by decide

theorem test_serviceIn_starts_homing :
    (after (after station (.serviceOut 0)) (.serviceIn 0)).helios[0].homing = some .el ∧
      answer (after station (.serviceIn 0)) = some .state := by decide

/-- R15, R58, R197: with DRVFLT active a SLIP in the record ends and a DRIVE fault begins: the latch of HELIO-FAULT is set. -/
theorem test_serviceIn_latches_both_changes_of_helioFault :
    (after (with0 { helio with inService := false, homed := false, engaged := .none, fault := .slip, drvflt := true })
      (.serviceIn 0)).au.latches = 0x100 := by decide

/-- R16: −2,048 and 2,047 are the ends of the range. -/
theorem test_correct_takes_the_ends_of_its_range :
    (after station (.correct 0 (-2048) 2047)).helios[0].dAz = -2048 ∧
      answer (after station (.correct 0 0 2048)) = some .range := by decide

/-- R62: the second heliostat, not homed and not homing, is re-homed with the first. -/
theorem test_rehome_of_all_takes_every_present_heliostat :
    (after station (.rehome 255)).helios[1].homing = some .el ∧ answer (after station (.rehome 255)) = some .done ∧
      answer (after (after station (.rehome 0)) (.rehome 0)) = some .busy := by decide

theorem test_defocusRelease_ends_the_code :
    (after { station with dcu := { station.dcu with active := true } } (.defocusRelease 255)).dcu.active = false ∧
      answer (after station (.defocusRelease 255)) = some .state := by decide

/-- R199: a latch with no published mark stays. -/
theorem test_clearAlerts_clears_published_latches :
    (after { station with au := { station.au with latches := 6, published := 2 } } (.clearAlerts 255)).au.latches = 4 := by
  decide

theorem test_clearSticky_clears_limit :
    (after (with0 { helio with limit := true, geom := true }) (.clearSticky 255)).helios[0].limit = false ∧
      (after (with0 { helio with limit := true, geom := true }) (.clearSticky 255)).helios[0].geom = false := by decide

/-- R106: the later request replaces the earlier. -/
theorem test_report_replaces_the_request :
    (after (after station (.report 1)) (.report 255)).bi.report = some .counters ∧
      answer (after station (.report 5)) = some .range := by decide

/-- R193: a correction offset survives a RESTART, the assignment does not. -/
theorem test_restart_keeps_the_offsets :
    (after (with0 { helio with dAz := 12, assignment := some 0 }) (.restart 255)).helios[0].dAz = 12 ∧
      (after (with0 { helio with dAz := 12, assignment := some 0 }) (.restart 255)).helios[0].assignment = none ∧
      (after { station with straps := 58 } (.restart 255)).sc.number = 58 := by decide

theorem test_reserved_kinds_are_answered_kind :
    answer (after station (.reservedCommand 0 255)) = some .kind ∧
      answer (after station (.reservedCommand 255 0)) = some .kind := by decide

/-! ## Frames -/

theorem test_sunFrame_stores_signed_components :
    (after station (.sunFrame 2 ⟨0, 0xC893, 0x2000⟩ ⟨1200, 0, 0⟩)).rs.sun[2] =
      some ⟨⟨0, -14189, 8192⟩, ⟨1200, 0, 0⟩, 0⟩ := by decide

/-- R121, R122: COLD sets STANDBY RX, TRIP sets RXTRIP, an unknown state is only heard. -/
theorem test_receiverFrame_states :
    (after station (.receiverFrame 4 0 [⟨6000, 5200⟩])).src.standbyRx = true ∧
      (after station (.receiverFrame 4 3 [⟨6000, 5200⟩])).helios[0].engaged = .defocus ∧
      (after station (.receiverFrame 4 4 [⟨6000, 5200⟩])).rs.receiver = none := by decide

/-- Section 8.9, event 1: zone 12 is not of interest, and the LRU bit names the other way. -/
theorem test_contributionFrame_fills_a_way :
    (after station (.contributionFrame 41 1 [⟨5, 2300, false⟩, ⟨12, 400, false⟩])).pt.sets[9] =
      { way0 := some ⟨41, 0, [⟨5, 2300, false⟩]⟩, way1 := none, lru := true } := by decide

theorem test_ownNumberFrame_silences :
    (after station .ownNumberFrame).sc.state = .silent ∧
      (after station .ownNumberFrame).helios[0].engaged = .defocus := by decide

/-- R91: a frame of six bytes whose CRC does not hold. -/
theorem test_frameDropped_counts_the_crc :
    (after station (.frameDropped ⟨9, none, true, 6, [6, 4, 9, 0, 0, 0]⟩)).bi.counters.crc = 1 ∧
      (after station (.frameDropped ⟨9, none, false, 6, [6, 4, 9, 0, 0, 0]⟩)).bi.counters.framing = 1 := by decide +kernel

/-- R90, R108: a frame of the own slot counts nothing where the epoch it began in is over and the own frame began there. -/
theorem test_frameDropped_spares_the_own_frame_cut_by_a_mark :
    (after station (.frameDropped ⟨57, some true, true, 1, [6]⟩)).bi.counters.length = 0 ∧
      (after station (.frameDropped ⟨57, some false, true, 1, [6]⟩)).bi.counters.length = 1 := by decide

/-- R102: no entry after a RESTART is taken, and an entry for another station is passed over. -/
theorem test_commandFrame_stops_at_a_restart :
    (after station (.commandFrame 3 [⟨57, 3, 255, 0, 0⟩, ⟨511, 15, 255, 0, 0⟩, ⟨57, 1, 255, 0, 0⟩])).sc.state = .loading ∧
      (after station (.commandFrame 3 [⟨58, 3, 255, 0, 0⟩, ⟨511, 1, 255, 0, 0⟩])).src.standbyCmd = false := by decide

/-! ## Epochs, marks and slots -/

/-- R21: a tick in progress takes its last turns before the tick of an epoch start falls. -/
theorem test_epochStart_ends_a_tick_in_progress :
    (after worked (.epochStart false)).acu = { tick := none, due := some none, scheduled := true } ∧
      (after worked (.epochStart false)).helios[0].p = 296 := by decide

theorem test_epochStart_counts_and_opens_the_window :
    (after station (.epochStart false)).bi.epoch = 1 ∧ (after station (.epochStart false)).bi.markWindow = true ∧
      (after (inState .syncing) (.epochStart true)).sc.listen = true := by decide

/-- The station at an instant at which a timer value makes its own wrap or a slot start due. -/
def atInstant (timer : Nat) : State := { station with bi := { station.bi with timer := timer, timerInstant := .due } }

/-- R88: of a mark and the own wrap of one instant, either first, one epoch start is made. -/
theorem test_timeMark_with_the_own_wrap :
    ((after (after (atInstant 1999999) (.timeMark true)) (.epochStart true)).bi.epoch = 1 ∧
      (after (after (atInstant 1999999) (.timeMark true)) (.epochStart true)).bi.counters.resyncs = 1) ∧
    (after (after (atInstant 1999999) (.epochStart true)) (.timeMark true)).bi.epoch = 1 ∧
      (after (after (atInstant 1999999) (.epochStart true)) (.timeMark true)).bi.counters.resyncs = 0 := by decide

/-- R88: a slot start that a mark of its instant comes before is not reached. -/
theorem test_timeMark_before_a_slot_start :
    (after (after (atInstant 285000) (.timeMark true)) (.slotStart 57)).bi.timer = 0 ∧
      (after (after (atInstant 285000) (.timeMark true)) (.slotStart 57)).bi.inOwnSlot = false := by decide

/-- R88: a mark outside the window starts an epoch and is counted. -/
theorem test_timeMark_outside_the_window :
    (after station (.timeMark false)).bi.counters.resyncs = 1 ∧ (after station (.timeMark true)).bi.epoch = 1 := by decide

/-- R89: the fourth missed mark sets MARK-LOST. -/
theorem test_markWindowClose_misses_the_fourth_mark :
    (after { station with bi := { station.bi with markWindow := true, missedMarks := 3 } } .markWindowClose).bi.markLost =
      true := by decide

theorem test_markLost_needs_four :
    (after { station with bi := { station.bi with missedMarks := 3 } } .markLost).bi.markLost = false ∧
      (after { station with bi := { station.bi with missedMarks := 4 } } .markLost).bi.markLost = true := by decide

/-- R87: at the instant of a RESTART's reset no slot starts. -/
theorem test_slotStart_is_none_at_a_restart :
    (after (after station (.restart 255)) (.slotStart 57)).bi.timer = 0 := by decide

theorem test_slotStart_opens_the_own_slot :
    (after station (.slotStart 57)).bi.inOwnSlot = true ∧ (after station (.slotStart 57)).bi.timer = 285000 ∧
      (after station (.slotStart 58)).bi.inOwnSlot = false := by decide

theorem test_busLost_at_400_quiet_slots :
    (after { station with bi := { station.bi with quietSlots := 400 } } .busLost).bi.busLost = true ∧
      (after { station with bi := { station.bi with quietSlots := 399 } } (.slotStart 9)).bi.busLost = true := by decide

theorem test_enterSilent_after_three_collisions :
    (after { station with bi := { station.bi with collisionRun := 3 } } .enterSilent).sc.state = .silent := by decide

theorem test_enterIsolated_after_iso_epochs :
    (after { station with bi := { station.bi with busLost := true }, sc := { station.sc with isoCount := 2 } }
      .enterIsolated).sc.state = .isolated := by decide

theorem test_enterNight_at_eight :
    (after { station with rs := { station.rs with nightCount := 8 } } .enterNight).helios[0].engaged = .stow := by decide

/-! ## The own frame -/

/-- The station in its own slot, about to build, with a receiver record and a P for its homed heliostat. -/
def building : State :=
  { with0 { helio with p := 296 } with
    rs := { station.rs with receiver := some ⟨.operating, List.replicate 6 ⟨6000, 200⟩ ++ [⟨3400, 0⟩], 0⟩ }
    bi := { station.bi with inOwnSlot := true, timer := 285000 } }

/-- R166, R170, R172: with no peer the allowance is the headroom, and the first candidate has room. -/
theorem test_build_places_the_first_candidate :
    (after building .build).helios[0].deferred = some 0 ∧
      (after building .build).fa.carried = [⟨5, 296, false⟩, ⟨6, 0, false⟩] := by decide

/-- R202: 18 bytes of state, 9 of the list, 3 of empty parts, 4 of header, 2 of CRC. -/
theorem test_build_makes_a_whole_frame :
    (after building .build).bi.tx.bytes.head? = some 36 ∧ (after building .build).bi.tx.bytes.length = 36 := by decide

theorem test_frameBegin_begins :
    (after (inPhase .built) .frameBegin).bi.tx.phase = .sending := by decide

/-- R174: the placement is applied and the plan published. -/
theorem test_transmitCompletion_publishes :
    (after (after (after building .build) .frameBegin) .transmitCompletion).helios[0].assignment = some 0 ∧
      (after (after (after building .build) .frameBegin) .transmitCompletion).fa.plan =
        [⟨5, 296, false⟩, ⟨6, 0, false⟩] := by decide

/-- R90: the character of another user's frame is read on, that of the own frame ends with it. -/
theorem test_echoMismatch_spares_the_frame_of_another_user :
    let hears := fun own : Bool => { inPhase .sending with bi := { (inPhase .sending).bi with
      rx := { Receiver.clear with inFrame := true, own := own, char := some [false, true] } } }
    (after (hears false) .echoMismatch).bi.rx.char = some [false, true] ∧
      (after (hears true) .echoMismatch).bi.rx.char = none := by decide

/-- Section 9.9.1, epoch 1,200: the receiver record, the peers and the published plan. -/
def shared : State :=
  { station with
    fa := { station.fa with plan := [⟨5, 900, false⟩, ⟨6, 0, false⟩] }
    rs := { station.rs with
      receiver := some ⟨.operating, List.replicate 5 ⟨0, 0⟩ ++ [⟨6000, 5200⟩, ⟨3000, 2800⟩], 0⟩ }
    pt := { station.pt with
      sets := (Vector.replicate 32 ⟨none, none, false⟩).set 9
        ⟨some ⟨41, 0, [⟨5, 2300, false⟩]⟩, some ⟨73, 0, [⟨5, 1800, false⟩]⟩, true⟩ } }

theorem test_allowance_as_worked : shared.allowance 5 = 1166 ∧ shared.allowance 6 = 200 := by decide

theorem test_echoMismatch_aborts :
    (after (inPhase .sending) .echoMismatch).bi.counters.aborts = 1 ∧
      (after (inPhase .sending) .echoMismatch).bi.mismatch = true := by decide

/-! ## Records -/

def someSun : SunRecord := ⟨⟨0, -14189, 8192⟩, ⟨0, 0, 0⟩, 0⟩

def someReceiver : RxRecord := ⟨.operating, [⟨6000, 200⟩], 0⟩

/-- The station with one sun record, its receiver record, and the epochs gone by since both. -/
def aged (epochs : Nat) : State :=
  { station with
    rs := { station.rs with sun := (Vector.replicate 8 none).set 2 (some someSun), receiver := some someReceiver }
    bi := { station.bi with epoch := BitVec.ofNat 32 epochs } }

/-- R112: SUN_HORIZON 8: age 8 is valid, age 9 is not. -/
theorem test_sunRecordExpiry_above_the_horizon :
    (after (aged 8) (.sunRecordExpiry 2)).rs.sun[2] = some someSun ∧
      (after (aged 9) (.sunRecordExpiry 2)).rs.sun[2] = none := by decide

theorem test_rxStale_sets_standby :
    (after (aged 2) .rxStale).src.standbyRx = false ∧ (after (aged 3) .rxStale).helios[0].engaged = .standby := by decide

/-- The station with one peer entry of an age in set 9, and residue in zone 5 that expires in epoch 3. -/
def peered (age : Nat) : State :=
  { station with
    pt := { sets := (Vector.replicate 32 ⟨none, none, false⟩).set 9 ⟨some ⟨41, age, [⟨5, 2300, false⟩]⟩, none, true⟩
            residue := [⟨5, 800, 3⟩, ⟨6, 0, 0⟩] }
    bi := { station.bi with epoch := 3 } }

theorem test_peerAgeOut_above_the_age :
    (after (peered 2) (.peerAgeOut 9 false)).pt.sets[9].way0.isSome = true ∧
      (after (peered 3) (.peerAgeOut 9 false)).pt.sets[9].way0 = none := by decide

theorem test_residueExpiry_in_its_epoch :
    (after (peered 0) (.residueExpiry 5)).pt.residue = [⟨5, 0, 3⟩, ⟨6, 0, 0⟩] := by decide

/-! ## Aiming and axes -/

theorem test_aimTick_writes_the_worked_targets :
    ((after worked (.aimTick 250 8)).helios[0].az.target, (after worked (.aimTick 250 8)).helios[0].el.target) =
      (366, 222656) := by decide

theorem test_aimTick_estimates_the_worked_flux :
    ((after worked (.aimTick 250 8)).helios[0].p, (after worked (.aimTick 250 8)).helios[0].c,
      (after worked (.aimTick 250 8)).helios[0].lastEl) = (296, 32708, 6087) := by decide

/-- Section 3.4: START_PERIOD 1,000, SLEW_PERIOD 400, RAMP_DEC 150, FINE_WINDOW 4, BACKLASH 3, INDEX_POS 1,000. -/
def slewing (position target : Int) (period : Nat) (dir : Dir) : State :=
  with0 { helio with el := { axis with
    prm := { prm with startPeriod := 1000, slewPeriod := 400, rampDec := 150, fineWindow := 4, backlash := 3
                      pulseWidth := 10, indexPos := 1000, slipTol := 20 }
    position := position, target := target, drive := .slewAccel, period := period, counter := 0, dir := dir
    lastDir := dir } }

/-- Section 3.4, time 1,000 and time 14,500. -/
theorem test_axisStep_slews_as_worked :
    ((after (slewing 1000 1012 1000 .pos) (.axisStep 0 .el)).helios[0].el.position,
      (after (slewing 1000 1012 1000 .pos) (.axisStep 0 .el)).helios[0].el.period) = (1001, 850) ∧
    ((after (slewing 1000 995 400 .neg) (.axisStep 0 .el)).helios[0].el.drive,
      (after (slewing 1000 995 400 .neg) (.axisStep 0 .el)).helios[0].el.period) = (.slewDecel, 550) := by decide

/-- Section 3.4, time 14,300: the axis read 1,001 where the index rose. -/
theorem test_indexEdge_resyncs_as_worked :
    (after (slewing 1001 995 400 .neg) (.indexEdge 0 .el pinHigh)).helios[0].el.position = 1000 ∧
      (after (slewing 1001 995 400 .neg) (.indexEdge 0 .el pinHigh)).bi.counters.indexResyncs = 1 := by decide

/-- A station whose first heliostat is homing its elevation axis. -/
def homing (a : AxisId) (x : Axis) : State :=
  with0 ({ helio with homed := false, engaged := .none, homing := some a }.setAxis a x)

/-- R56: after homing the last step direction is negative, also where no step of the search has counted. -/
theorem test_indexEdge_completes_homing :
    (after (homing .el { axis with drive := .homeSearch, period := 700, counter := 300, lastDir := .pos })
      (.indexEdge 0 .el pinHigh)).helios[0].el.lastDir = .neg ∧
    (after (homing .el { axis with drive := .homeSearch, period := 700, counter := 3 }) (.indexEdge 0 .el pinHigh)).helios[0].az.drive
        = .homeSearch ∧
      (after (homing .az { axis with drive := .homeSearch, period := 700, counter := 3 }) (.indexEdge 0 .az pinHigh)).helios[0].engaged
        = .track := by decide

/-- R57: HOME_MAX is 2 here. -/
theorem test_homefail_at_home_max :
    (after (homing .el { axis with drive := .homeSearch, period := 700, phaseCount := 2 }) (.homefail 0 .el)).helios[0].fault
      = .homefail := by decide

theorem test_driveFault_needs_an_enabled_driver :
    (after station (.driveFault 0 pinLow)).helios[0].fault = .drive ∧
      (after station (.driveFault 1 pinLow)).helios[1].fault = .none := by decide

/-! ## Inputs, the code, irradiance -/

theorem test_stowInputChange_stows :
    (after station (.stowInputChange pinLow)).helios[0].engaged = .stow := by decide

/-- Section 7.7, event 1: 20,000 bits. -/
theorem test_tripEdge_generates_as_worked :
    (after station (.tripEdge pinLow)).dcu.genCount = 20000 ∧ (after station (.tripEdge pinLow)).dcu.active = true := by decide

theorem test_generationEnd_keeps_the_code :
    (after (after station (.tripEdge pinLow)) .generationEnd).dcu.generating = false ∧
      (after (after station (.tripEdge pinLow)) .generationEnd).dcu.active = true := by decide

/-- The station with its activate detector five bits into an instance, and one bit short of 6,000. -/
def listening : State :=
  { station with dcu := { station.dcu with act := { history := [false, true, true, false, true], locked := false
                                                    phase := 0, run := 0 } } }

def detecting : State :=
  { station with dcu := { station.dcu with
      act := { history := [], locked := true, phase := 5, run := 5999 }
      rel := { history := [], locked := true, phase := 6, run := 6998 } } }

/-- Section 7.7, event 3: a lock with run 6. -/
theorem test_detectorLock_as_worked :
    (after listening (.detectorLock false)).dcu.act = ⟨[false, true, true, false, true, false], true, 0, 6⟩ := by decide

/-- Section 7.7, event 5: the run reaches 6,000. -/
theorem test_activateDetection_as_worked :
    (after detecting (.activateDetection false)).dcu.active = true ∧
      (after detecting (.activateDetection false)).helios[0].engaged = .defocus := by decide

/-- Section 7.7, event 9: the release run reaches 7,000. -/
theorem test_releaseDetection_as_worked :
    (after { detecting with dcu := { detecting.dcu with active := true, rel := { detecting.dcu.rel with run := 6999 } } }
      (.releaseDetection true)).dcu.active = false := by decide

theorem test_dniPulse_saturates :
    (after { station with irm := { station.irm with pulses := 65535 } } .dniPulse).irm.pulses = 65535 := by decide

/-- Section 9.1.1, windows 3 and 6. -/
theorem test_windowEnd_as_worked :
    (after { station with irm := { station.irm with timer := 249999, pulses := 141, h := 830 } } .windowEnd).irm =
      { running := true, timer := 0, pulses := 0, m := 352, h := 810, clouded := true } ∧
    (after { station with irm := { station.irm with timer := 249999, pulses := 330, h := 790 } } .windowEnd).irm =
      { running := true, timer := 0, pulses := 0, m := 825, h := 825, clouded := false } := by decide

/-- R161: a window begun afresh at the instant of the old window's end does not end with it. -/
theorem test_windowEnd_leaves_a_fresh_window :
    (after { station with irm := { station.irm with pulses := 141 } } .windowEnd).irm =
      { station.irm with pulses := 141 } := by decide

/-! ## Resets and loads -/

theorem test_resets_and_por :
    (after station (.powerOnReset ⟨true, 57⟩)).sc.por = true ∧ (after station (.resetn ⟨pinLow, 57⟩)).sc.por = false ∧
      (after (after station (.resetn ⟨pinLow, 57⟩)) (.resetn ⟨pinHigh, 57⟩)).inReset = false := by decide

/-- Section 10.11, event 6: the straps are sampled as RESETn is released, before the load ends. -/
theorem test_resetn_samples_the_straps_at_its_release :
    (after (after station (.resetn ⟨pinLow, 57⟩)) (.resetn ⟨pinHigh, 58⟩)).sc.number = 58 ∧
      (after (after station (.resetn ⟨pinLow, 57⟩)) (.resetn ⟨pinHigh, 58⟩)).sc.state = .loading := by decide

theorem test_loadEnd_of_an_empty_memory_is_refused :
    (after State.reset (.loadEnd 0 [])).sc.state = .configFault ∧
      (after State.reset (.loadEnd 0 [])).alertLow = true := by decide

/-- R201: the register after the nine characters 1 to 9. The published check value of the same polynomial, start value
and bit order with the register read the other way round is 0x6F91. -/
theorem test_crc_of_the_check_string : crc16 [0x31, 0x32, 0x33, 0x34, 0x35, 0x36, 0x37, 0x38, 0x39] = 0x89F6 := by
  decide +kernel

/-! ## A configuration image that passes (R205) -/

/-- The station words of an image: those of section 9.1.1, the patterns of section 7.7, and a standby point. -/
def stationWords : List Int := [250, 8, -286, 286, 2, 2, 3, 40, 20, 790, 850, 230, 0x16, 0x74, 1000, 40, 0x1FFF, 0, 0, 90000]

/-- A record of the image: the heliostat of section 2.11, its candidate the one aim point of the table. -/
def recordWords : List Int :=
  [1, 1, 0, 80000, 0, 160, 224, 1, 0, 0, 0, 0, 12, -7, 45000, 0, 560000,
    32768, 2000000, -900000, 900000, 1000, 200, 2000, 2000, 100, 5, 100, 2, -4000, 50, 10000,
    0, 2400000, -10000, 600000, 1000, 200, 2000, 2000, 100, 5, 100, 2, -4000, 50, 10000]

def absentWords : List Int := List.replicate 47 0

/-- An image with one heliostat and one aim point, in level mode. -/
def image : List Byte :=
  withCrc ([0x5C, 0xA7] ++ halfBytes 1612 ++ [1, 1, 0, 0, 6, 7] ++
    (stationWords ++ recordWords ++ (List.replicate 7 absentWords).flatten ++ [5, 0, 0, 60000]).flatMap signedWordBytes)

/-- A station whose power-on reset has ended, its straps at a number. -/
def strapped (n : BitVec 9) : State := after (after State.reset (.powerOnReset ⟨true, n⟩)) (.powerOnReset ⟨false, n⟩)

set_option maxRecDepth 100000 in
theorem test_loadEnd_of_the_image_passes : (judgeImage 57 image).isSome = true := by decide +kernel

set_option maxRecDepth 100000 in
theorem test_loadEnd_begins_syncing_and_homing :
    (after (strapped 57) (.loadEnd 9 image)).sc.state = .syncing ∧
      (after (strapped 57) (.loadEnd 9 image)).helios[0].homing = some .el := by decide +kernel

/-! ## Witnesses: states and operands that meet the hypotheses of each statement, clause by clause -/

def queued (c : Instr) : State := { station with pending := [c] }

/-- The station whose frame is on the line. -/
def sending : State := after (after building .build) .frameBegin

def inCode (active generating : Bool) : State :=
  { station with dcu := { station.dcu with active := active, generating := generating } }

def edgeMode (line input : Bool) : State :=
  fixed { station with cfg := { cfg with stowEdge := true }, src := { Sources.none with stowLine := line }, stowin := input }
where fixed (s : State) : State := s.reengageAll

theorem witness_StepTakesTheFrontCommand : (queued .build).pending = .build :: [] := by decide

theorem witness_IdleMicrosecond :
    station.pending = [] ∧ station.inReset = false ∧ station.bi.timer < 1999999 ∧
      { station with bi := { station.bi with timer := 1999999 } }.bi.timer = 1999999 ∧
      (1994999 + 1 = 5000 * 399 ∧ 284999 + 1 = 5000 * station.sc.number) ∧
      ((inPhase .built).bi.tx.phase = .built ∧ 285099 + 1 = 5000 * (inPhase .built).sc.number + 100) ∧
      ((inPhase .sending).bi.tx.phase = .sending ∧ 719 + 1 = 20 * (after building .build).bi.tx.bytes.length) ∧
      (station.running = true ∧ station.acu = { tick := none, due := none, scheduled := true } ∧
        station.cfg.aimPeriod ≠ 0 ∧ 1750 % station.cfg.aimPeriod = 0 ∧ 1749999 + 1 = 1000 * 1750) ∧
      ((after station (.epochStart false)).acu.tick = none ∧ (after station (.epochStart false)).acu.due = some none) ∧
      (worked.acu.tick = some { sun := ⟨0, -14189, 8192⟩, turn := 0, micros := 0 } ∧ State.reset.acu = .blank) ∧
      (inCode true true).dcu.generating = true ∧
      { station with irm := { station.irm with timer := 249999 } }.irm.running = true ∧
      ((slewing 0 9 400 .pos).helios[0].axis .el).period ≠ 0 ∧ ((slewing 0 9 400 .pos).helios[0].axis .el).counter ≤ 1 ∧
      1 < ((homing .el { axis with period := 700, counter := 2 }).helios[0].axis .el).counter ∧
      ((station.helios[0].axis .el).period = 0 ∧ (after station (.tripEdge pinLow)).dcu.generating = true ∧
        (after station (.tripEdge pinLow)).dcu.genMicros = 0 ∧ station.dcu.generating = false) ∧
      (after station (.resetn ⟨pinLow, 57⟩)).inReset = true := by decide

/-- The station with its receiver in a frame, and the line at a level in the first microsecond of a cell. -/
def receiving (char : Option (List Bool)) (idle : Nat) (level : Bool) : State :=
  { station with bi := { station.bi with
      rx := { Receiver.clear with inFrame := true, slot := ⟨9, none⟩, char := char, idle := idle }
      line := { level := level, cell := 0 } } }

theorem witness_IdleMicrosecondReceives :
    station.pending = [] ∧ station.inReset = false ∧ (∃ t, step station = .next t) ∧ station.dcu.generating = false ∧
      station.bi.rx.held = false ∧ station.bi.line.level = true ∧ station.bi.rx.char = none ∧ station.bi.rx.inFrame = false ∧
      (inCode true true).dcu.generating = true ∧ (receiving (some [false]) 0 true).bi.rx.char = some [false] ∧
      (receiving (some (List.replicate 9 false)) 0 true).bi.rx.char = some (List.replicate 9 false) ∧
      (receiving none 19 true).bi.rx.idle = 19 ∧ (receiving none 18 true).bi.rx.inFrame = true ∧
      (receiving none 0 true).bi.line.cell = 0 ∧ sending.bi.tx.bytes[1 / 20]? = some 36 ∧ sending.bi.tx.phase = .sending :=
  ⟨by decide, by decide, ⟨_, rfl⟩, by decide, by decide, by decide, by decide, by decide, by decide, by decide, by decide,
    by decide, by decide, by decide, by decide, by decide⟩

theorem witness_NothingActsBeforeALoad :
    State.reset.sc.state.loaded = false ∧ (inState .configFault).sc.state.loaded = false ∧ fromBus (.stowField 255) = true ∧
      (after station (.resetn ⟨pinLow, 57⟩)).inReset = true := by decide

theorem witness_LevelChange :
    helio.engaged ≠ helio.governing { Sources.none with stowCmd := true } true ∧
      helio.governing { Sources.none with stowCmd := true } true = .stow ∧
      helio.governing { Sources.none with code := true } true = .defocus ∧
      { helio with hold := some ⟨0, 9⟩ }.governing .none true = .hold ∧
      helio.governing { Sources.none with standbyRx := true } true = .standby ∧
      { helio with engaged := .defocus }.governing .none true = .track ∧ helio.governing .none false = .none := by decide

theorem witness_EngagedLevelIsKept :
    EngagedOk (queued (.stowField 255)) ∧ ∃ t, step (queued (.stowField 255)) = .next t :=
  ⟨by decide, _, rfl⟩

theorem witness_StowAndStandbyCommands :
    station.running = true ∧ EngagedOk station ∧ station.helios[1].computed = false ∧ station.helios[0].computed = true ∧
      station.helios[0].engaged ≠ .stow ∧ EngagedOk (after station (.stowField 255)) ∧
      (after station (.stowField 255)).helios[0].engaged = .stow ∧
    (station.src.stowCmd || (station.cfg.stowEdge && station.src.stowLine)) = false ∧
      ((edgeMode true false).src.stowCmd || ((edgeMode true false).cfg.stowEdge && (edgeMode true false).src.stowLine)) = true ∧
      (edgeMode true false).running = true ∧ station.src.standbyCmd = false ∧
      (after station (.standbySet 255)).src.standbyCmd = true ∧ (after station (.standbySet 255)).running = true := by decide

theorem witness_WrongHeliostatFieldsAreRange :
    station.running = true ∧ (254 : Byte) ≠ 255 ∧
      (∀ i : Fin 8, (2 : Byte).toNat = i.val → station.helios[i].cfg.present = false) ∧
      (∀ i : Fin 8, (8 : Byte).toNat = i.val → station.helios[i].cfg.present = false) := by decide

theorem witness_HoldTakesItsTarget :
    station.running = true ∧ EngagedOk station ∧ station.helios[0].cfg.present = true ∧
      station.helios[0].computed = true ∧ demandedLevel station.src true = .hold ∧
      (after station (.hold 0 366 500)).helios[0].engaged = .hold ∧
      (after station (.hold 0 366 500)).helios[0].posture = .moving ∧ EngagedOk (after station (.hold 0 366 500)) ∧
      (after station (.hold 0 366 500)).running = true := by decide

theorem witness_HoldReleaseWithdraws :
    station.running = true ∧ EngagedOk station ∧ station.helios[0].hold = none ∧
      (∀ i : Fin 8, (7 : Byte).toNat = i.val → station.helios[i].cfg.present = false) ∧
      EngagedOk (after station (.hold 0 0 0)) ∧ (after station (.hold 0 0 0)).helios[0].hold ≠ none ∧
      (0 : Byte).toNat = (0 : Fin 8).val ∧ (after station (.hold 0 0 0)).helios[0].cfg.present = true := by decide

theorem witness_ServiceOutTakesOut :
    station.running = true ∧ station.helios[0].cfg.present = true ∧ station.helios[0].inService = true ∧
      (after station (.serviceOut 0)).helios[0].inService = false := by decide

theorem witness_ServiceInStartsHoming :
    station.running = true ∧ EngagedOk station ∧ station.helios[0].inService = true ∧
      EngagedOk (after station (.serviceOut 0)) ∧ (after station (.serviceOut 0)).helios[0].inService = false ∧
      (after station (.serviceOut 0)).helios[0].drvflt = false ∧
      EngagedOk (after (with0 { helio with drvflt := true }) (.serviceOut 0)) ∧
      (after (with0 { helio with drvflt := true }) (.serviceOut 0)).helios[0].fault = .none := by decide

theorem witness_CorrectReplacesBothOffsets :
    station.running = true ∧ station.helios[0].cfg.present = true ∧
      (-2048 ≤ (0xFFFFF800 : Word).toInt ∧ (0xFFFFF800 : Word).toInt ≤ 2047 ∧ -2048 ≤ (2047 : Word).toInt ∧
        (2047 : Word).toInt ≤ 2047) ∧ ¬ -2048 ≤ (0xFFFFF7FF : Word).toInt := by decide

theorem witness_RehomeTakesWhoPasses :
    (station.running = true ∧ station.helios[0].cfg.present = true ∧ station.helios[0].homing = none ∧
      station.helios[0].inService = true ∧ station.helios[0].drvflt = false ∧
      (after station (.rehome 0)).helios[0].homing ≠ none ∧
      (after station (.serviceOut 0)).helios[0].homing = none ∧
      (after station (.serviceOut 0)).helios[0].inService = false) ∧
    (∀ i : Fin 8, station.helios[i].cfg.present = true →
      station.helios[i].homing = none ∧ station.helios[i].inService = true ∧ station.helios[i].drvflt = false) ∧
    (∀ i : Fin 8, { station with helios := bank .blank .blank }.helios[i].cfg.present = false) ∧
    (after station (.rehome 1)).helios[1].homing ≠ none := by decide

theorem witness_ReleaseAndClearingCommands :
    (inCode true true).running = true ∧ (inCode true true).dcu.generating = true ∧
      (inCode false false).dcu.active = false ∧ (inCode true false).dcu.active = true ∧
      (inCode true false).dcu.generating = false := by decide

theorem witness_ReportReplacesTheRequest :
    station.running = true ∧ (1 : Byte).toNat = (1 : Fin 8).val ∧ station.helios[1].cfg.present = true ∧
      (254 : Byte) ≠ 255 ∧ (∀ i : Fin 8, (254 : Byte).toNat = i.val → station.helios[i].cfg.present = false) := by decide

theorem witness_RestartKeepsWhatItKeeps : station.running = true ∧ (slewing 0 9 400 .pos).running = true := by decide

theorem witness_CommandFrameTakesEntriesInOrder :
    station.accepts (3 : Fin 8).val = true ∧ ([] : List CommandEntry).length ≤ 8 ∧
      (∀ e ∈ [(⟨57, 3, 255, 0, 0⟩ : CommandEntry), ⟨511, 15, 7, 0, 0⟩, ⟨58, 15, 255, 0, 0⟩],
        (e.target.toNat = station.sc.number ∨ e.target.toNat = 511) → ¬(e.kind = 15 ∧ e.heliostat = 255)) ∧
      ((511 : Half).toNat = station.sc.number ∨ (511 : Half).toNat = 511) := by decide

theorem witness_DroppedFramesAreCounted :
    State.reset.accepts 9 = false ∧ station.accepts 9 = true ∧ station.accepts 57 (some true) = false ∧
      lengthHolds ⟨9, none, true, 6, [6, 4, 9, 0, 0, 0]⟩ = true ∧
      lengthHolds ⟨9, none, true, 7, [6, 4, 9, 0, 0, 0]⟩ = false ∧ lengthHolds ⟨9, none, true, 5, [5, 4, 9, 0, 0]⟩ = false ∧
      crcHolds [6, 4, 9, 0, 0, 0] = false ∧ crcHolds (withCrc [6, 4, 9, 0]) = true ∧
      lengthHolds ⟨10, none, true, 6, withCrc [6, 4, 9, 0]⟩ = true ∧ (half 9 0).toNat ≠ 10 ∧ (half 9 0).toNat = 9 ∧
      ¬((1 ≤ (5 : Byte).toNat ∧ (5 : Byte).toNat ≤ 3 ∧ 9 ≤ 7) ∨ ((5 : Byte).toNat = 4 ∧ 8 ≤ 9 ∧ 9 ≤ 399)) ∧
      ((4 : Byte).toNat = 4 ∧ 8 ≤ 9 ∧ 9 ≤ 399) ∧ contentFills 4 (withCrc [6, 4, 9, 0]) = false ∧
      contentFills 3 (withCrc ([19, 3, 0, 0, 1] ++ List.replicate 12 0)) = true := by decide +kernel

theorem witness_ReferenceFramesReplaceRecords :
    station.accepts (7 : Fin 8).val = true ∧ station.accepts (0 : Fin 8).val = true ∧ 4 ≤ (4 : Byte).toNat ∧ rxStateOf 0 = some .cold ∧ rxStateOf 3 = some .trip ∧
      1 ≤ [(⟨6000, 0⟩ : ZoneReading)].length ∧ [(⟨6000, 0⟩ : ZoneReading)].length ≤ 32 := by decide

theorem witness_FilteredListFollowsItsSteps :
    station.interestZones = [5, 6] ∧ [5, 6, 9].Pairwise (· < ·) ∧
      (¬((0 : Byte).toNat = 1 ∨ (0 : Byte).toNat = 2 ∨ (0 : Byte).toNat = 3)) ∧ (2 : Byte).toNat = 2 ∧
      filteredList [5, 6, 9] 2 [⟨9, 0, false⟩, ⟨5, 2300, true⟩, ⟨3, 500, false⟩, ⟨5, 900, false⟩, ⟨40, 100, false⟩] =
        [⟨5, 2300, false⟩] := by decide

/-- A set with both ways valid, and the frames that hit it, miss it, and pass it by. -/
def full : State :=
  { station with pt := { station.pt with
      sets := (Vector.replicate 32 ⟨none, none, false⟩).set 9
        ⟨some ⟨41, 0, [⟨5, 2300, false⟩]⟩, some ⟨73, 0, [⟨6, 0, true⟩]⟩, true⟩ } }

theorem witness_ContributionFrameIsLookedUp :
    full.accepts 41 = true ∧ 41 ≠ full.sc.number ∧ full.accepts 399 = true ∧
      full.pt.sets[peerSetOf 41].hit 41 = some false ∧ full.pt.sets[peerSetOf 137].hit 137 = none ∧
      filteredList full.interest 1 [⟨5, 2300, false⟩] ≠ [] ∧ filteredList full.interest 1 [⟨12, 400, false⟩] = [] ∧
      full.pt.sets[peerSetOf 137].way full.pt.sets[peerSetOf 137].lru ≠ none ∧
      station.pt.sets[peerSetOf 137].way station.pt.sets[peerSetOf 137].lru = none ∧
      (peered 0).pt.sets[peerSetOf 137].way0 ≠ none ∧ (peered 0).pt.sets[peerSetOf 137].way1 = none := by decide

/-- R186, R191: in LISTEN the frame is left to the next epoch start, but at the instant of the epoch start that began LISTEN
it silences at once, as it does where it comes before that epoch start. -/
theorem test_ownNumberFrame_with_an_epoch_start :
    (after (inState .syncing) .ownNumberFrame).sc.state = .syncing ∧
      (after (after (inState .syncing) (.epochStart true)) .ownNumberFrame).sc.state = .silent ∧
      (after (after (inState .syncing) .ownNumberFrame) (.epochStart true)).sc.state = .silent ∧
      (after (after (after (inState .syncing) (.epochStart true)) (.slotStart 57)) .ownNumberFrame).sc.state = .syncing := by
  decide

/-- R45, R193: at RESTART a pulse in progress counts in its direction, and DIR then shows negative. -/
theorem test_restart_gives_dir_its_initial_value :
    let s := with0 { helio with el := { axis with dir := .pos, lastDir := .pos, takeUp := 0, position := 7, period := 9
                                                  counter := 1, prm := { prm with pulseWidth := 5 } } }
    (after s (.restart 255)).helios[0].el.dir = .neg ∧ (after s (.restart 255)).helios[0].el.position = 8 ∧
      (after s (.restart 255)).helios[0].el.lastDir = .pos := by decide

theorem witness_OwnNumberFrameSilences :
    station.accepts station.sc.number = true ∧ 8 ≤ station.sc.number ∧ station.sc.number ≤ 399 ∧
      station.sc.state = .operating ∧ (inPhase .sending).accepts 57 = true ∧ (inPhase .sending).bi.tx.phase ≠ .empty ∧
      (inState .syncing).accepts 57 = true ∧ (inState .silent).sc.state = .silent ∧
      (after (inState .syncing) (.epochStart true)).sc.listen = true ∧
      (after (inState .syncing) (.epochStart true)).sc.state = .syncing ∧
      (after (inState .syncing) (.epochStart true)).bi.epochNow = true ∧
      (after (inState .syncing) (.epochStart true)).accepts 57 = true := by decide

theorem witness_OwnWrapStartsAnEpoch :
    station.inReset = false ∧ station.bi.timerInstant ≠ .cut ∧ (after station (.restart 255)).bi.timerInstant = .cut ∧
      (after station (.restart 255)).inReset = false ∧ station.sc.state.loaded = true ∧ station.cfg.aimPeriod ≠ 0 ∧
      station.acu.tick = none ∧ State.reset.inReset = false ∧ State.reset.sc.state.loaded = false ∧
      (aged 9).sc.state.loaded = true ∧ (aged 9).rs.sun[2] = some someSun ∧ (peered 2).sc.state.loaded = true := by decide

theorem witness_EpochStartTests :
    (∀ st ∈ [StationState.syncing, .operating, .isolated, .night, .silent],
      (inState st).running = true ∧ (inState st).sc.state = st) ∧
      station.bi.timerInstant ≠ .cut ∧ station.bi.markWindow = false ∧
      (∃ t, exec (.timeMark true) station = .next t) ∧ ∃ t, exec (.epochStart false) (inState .night) = .next t :=
  ⟨by decide, by decide, by decide, ⟨_, rfl⟩, _, rfl⟩

theorem witness_TimeMarkRealignsOrStarts :
    station.inReset = false ∧ station.bi.markWindow = false ∧ station.running = true ∧ State.reset.inReset = false ∧
      (inPhase .sending).bi.tx.phase = .sending ∧ (inPhase .built).bi.tx.phase ≠ .sending ∧
      { station.bi with markWindow := true }.markWindow = true ∧ { station.bi with missedMarks := 4 }.missedMarks = 4 ∧
      (inPhase .built).bi.tx.phase ≠ .empty ∧ station.acu.tick = none ∧ State.reset.sc.state.loaded = false ∧
      (atInstant 1999999).bi.timerInstant ≠ .plain ∧ (atInstant 1999999).inReset = false ∧
      (atInstant 285000).bi.markWindow = false ∧ station.bi.timerInstant = .plain := by decide

theorem witness_SlotStartCountsAndSettles :
    station.running = true ∧ { station.bi with quietSlots := 400 }.quietSlots = 400 ∧ station.bi.timerInstant ≠ .cut ∧
      { station.bi with timerInstant := .cut }.timerInstant = .cut ∧ 1 ≤ 57 ∧ 57 ≤ 399 := by decide

/-- A state whose collision run is 3; and one that has lost the bus for ISO_EPOCHS epochs; and one that has counted a night. -/
def collided (s : State) : State := { s with bi := { s.bi with collisionRun := 3 } }
def isolating (s : State) : State := { s with bi := { s.bi with busLost := true }, sc := { s.sc with isoCount := 2 } }
def darkened (s : State) (epoch : BitVec 32) : State :=
  { s with rs := { s.rs with nightCount := 8 }, bi := { s.bi with epoch := epoch } }

theorem witness_EnteringStates :
    (∀ s ∈ [collided station, collided (inState .isolated), collided (inState .night), collided (inPhase .sending),
        collided (inPhase .built)],
      s.running = true ∧ (s.sc.state = .operating ∨ s.sc.state = .isolated ∨ s.sc.state = .night) ∧
        3 ≤ s.bi.collisionRun ∧ (after s .enterSilent).sc.state = .silent) ∧
      (inState .syncing).running = true ∧ { station.bi with heardOwnSlot := true }.heardOwnSlot = true ∧
      (∀ s ∈ [isolating station, isolating (inState .night)],
        s.running = true ∧ (s.sc.state = .operating ∨ s.sc.state = .night) ∧ ¬3 ≤ s.bi.collisionRun ∧
          s.bi.busLost = true ∧ s.cfg.isoEpochs ≤ min (s.sc.isoCount + 1) 16) ∧
      (∀ s ∈ [darkened (inPhase .sending) 31, darkened (inPhase .built) 32],
        s.running = true ∧ s.sc.state = .operating ∧ ¬3 ≤ s.bi.collisionRun ∧
          ¬(s.bi.busLost = true ∧ s.cfg.isoEpochs ≤ min (s.sc.isoCount + 1) 16) ∧ s.rs.nightCount = 8) ∧
      (after (darkened (inPhase .built) 32) .enterNight).bi.tx.phase = .built ∧
      (after (darkened (inPhase .sending) 31) .enterNight).bi.counters.aborts = 1 := by decide

theorem witness_RecordsExpire :
    (aged 9).running = true ∧ (aged 9).rs.sun[2] = some someSun ∧ (aged 9).rs.receiver = some someReceiver ∧
      (aged 9).cfg.sunHorizon < ((aged 9).bi.epoch - someSun.epoch).toNat ∧
      (aged 3).cfg.rxStale < ((aged 3).bi.epoch - someReceiver.epoch).toNat ∧
      (peered 3).pt.sets[9].way false = some ⟨41, 3, [⟨5, 2300, false⟩]⟩ ∧ (peered 3).cfg.peerAgeMax < 3 := by decide

theorem witness_RecordsStayFresh :
    RecordsFresh { aged 2 with pending := [.epochStart false] } ∧
      RecordsClear { aged 2 with pending := [.epochStart false] } ∧
      ∃ t, step { aged 2 with pending := [.epochStart false] } = .next t :=
  ⟨by decide, by decide, _, rfl⟩

theorem witness_BuildCarriesAndPlans :
    building.willBuild = true ∧ building.sc.state = .operating ∧
      { building with sc := { building.sc with state := .isolated } }.willBuild = true ∧
      { building with sc := { building.sc with state := .night } }.willBuild = true := by decide

theorem witness_BuiltFrameReadsBack :
    building.willBuild = true ∧ 8 ≤ building.sc.number ∧ building.sc.number ≤ 399 ∧ building.interest.length ≤ 8 ∧
      building.bi.outcomes.length ≤ 4 := by decide

/-- R168 to R170: a heliostat kept, one placed, and one that wants a zone: the second heliostat has the larger P. -/
def passing : State :=
  { building with helios := bank { helio with p := 100, assignment := some 1 } { helio with p := 296, assignment := some 0 } }

theorem witness_KeepAndPlacePasses :
    building.willBuild = true ∧ building.sc.state = .operating ∧ building.helios[0].eligible = true ∧
      building.helios[1].eligible = false ∧ passing.willBuild = true ∧
      zoneOfField passing.cfg passing.helios[1].assignment = some 5 ∧
      sumOfP passing (fun j => takenBefore passing 1 j && keptOn (after passing .build) 5 j) + 296 ≤
        min (passing.allowance 5) (passing.published 5) ∧
      (after passing .build).helios[0].deferred = some 0 ∧ (after passing .build).helios[1].assignment = some 0 := by decide

theorem witness_AllowanceIsAFairShare :
    station.rs.receiver = none ∧ (∃ r, shared.rs.receiver = some r ∧ r.state = .operating ∧ r.zones[6]? = some ⟨3000, 2800⟩ ∧
      r.zones.length ≤ 7) ∧
      (∃ r, (after station (.receiverFrame 4 3 [⟨6000, 5200⟩])).rs.receiver = some r ∧ r.state = .trip) ∧
      station.headroom 5 ≤ station.published 5 ∧ shared.published 5 < shared.headroom 5 :=
  ⟨by decide, ⟨_, rfl, rfl, by decide, by decide⟩, ⟨_, rfl, rfl⟩, by decide, by decide⟩

/-- The station about to build, with a report pending, two outcomes, and a peer. -/
def reporting (r : ReportRequest) : State :=
  { building with bi := { building.bi with report := some r, outcomes := [⟨5, 0, .busy, false⟩, ⟨77, 1, .kind, false⟩] } }

theorem witness_FrameCarriesItsFields :
    building.willBuild = true ∧ building.bi.report = none ∧ (reporting .counters).willBuild = true ∧
      (reporting (.helio 7)).willBuild = true ∧ (reporting (.helio 7)).bi.outcomes[1]? = some ⟨77, 1, .kind, false⟩ ∧
      (after (reporting (.helio 7)) .build).fa.carried[1]? = some ⟨6, 0, false⟩ ∧
      (after (reporting (.helio 7)) .build).bi.tx.bytes.length = 36 + 6 + 47 := by decide

theorem witness_FrameBeginsOrIsCut :
    (inPhase .built).running = true ∧ (inPhase .built).frameAllowed = true ∧ (inPhase .built).dcu.generating = false ∧
      { inPhase .built with sc := (inState .silent).sc }.frameAllowed = false ∧
      (inPhase .sending).bi.tx.phase = .sending ∧ (inPhase .sending).running = true := by decide

theorem witness_CompletionPublishes :
    (after (after building .build) .frameBegin).running = true ∧
      (after (after building .build) .frameBegin).bi.tx.phase = .sending ∧
      (after (after building .build) .frameBegin).helios[0].deferred = some 0 ∧
      (after (after building .build) .frameBegin).helios[1].deferred = none := by decide

theorem witness_PublishedFluxIsNeverExceeded :
    FluxOk { after (after building .build) .frameBegin with pending := [.transmitCompletion] } ∧
      ∃ t, step { after (after building .build) .frameBegin with pending := [.transmitCompletion] } = .next t :=
  ⟨by decide, _, rfl⟩

theorem witness_RootsAndSunVectorsAreExact :
    (∀ k : Fin 8, station.rs.sun[k] = none) ∧ (aged 2).rs.sun[2] = some someSun ∧
      (∀ j : Fin 8, j < 2 → (aged 2).rs.sun[j] = none) ∧ RoundsTo (0 * 4000) 1024000 (0 - 0) ∧
      RoundsTo (-512000) 1024000 (-1) := by
  simp only [RoundsTo]; decide

theorem witness_AnglesAreRounded :
    (0 : Nat) < 27296 ∧ ((0 : Int) : ℝ) = 5 * Real.sin (0 * Real.pi / 32768) ∧
      ((5 : Int) : ℝ) = 5 * Real.cos (0 * Real.pi / 32768) := by norm_num

/-- The station with a sun record, so that a tick finds the sun. -/
def sunlit : State := { station with rs := { station.rs with sun := (Vector.replicate 8 none).set 0 (some someSun) } }

/-- R116: the tick of an epoch start that found the sun lost finds it lost, though a frame has come since. -/
theorem test_aimTick_keeps_the_evaluation_of_the_epoch_start :
    (after (after (after station (.timeMark false)) (.sunFrame 0 ⟨0, 0, 0x4000⟩ ⟨0, 0, 0⟩)) (.aimTick 0 8)).src.sun = true ∧
      (after sunlit (.timeMark false)).acu.due = some (some ⟨0, -14189, 8192⟩) := by decide +kernel

theorem witness_AimTickTakesTheTurns :
    sunlit.running = true ∧ EngagedOk sunlit ∧ sunlit.acu.tick = none ∧ sunlit.acu.scheduled = true ∧
      State.reset.acu.scheduled = false ∧ sunlit.cfg.tickAt 1750 = true ∧
      (sunlit.evalSun 1750).isSome = true ∧ sunlit.sc.state ≠ .night ∧ station.evalSun 0 = none ∧
      worked.acu.tick.isSome = true ∧ EngagedOk worked ∧
      { sunlit with sc := (inState .night).sc, cfg := { cfg with dawnSu := 8192 } }.cfg.dawnSu ≤ 8192 ∧
      sunlit.evalSun 0 = some ⟨0, -14189, 8192⟩ ∧ sunlit.bi.timerInstant ≠ .cut ∧ sunlit.acu.due = none ∧
      { sunlit.acu with due := some none }.due = some none ∧
      (after sunlit (.timeMark false)).acu.due = some (some ⟨0, -14189, 8192⟩) ∧ sunlit.cfg.tickAt 0 = true ∧
      { sunlit.bi with timerInstant := .cut }.timerInstant = .cut := by decide +kernel

theorem witness_TurnComputesItsValues :
    { helio with fault := .slip }.computed = false ∧ { helio with engaged := .hold }.engaged ≠ .track ∧
      helio.computed = true ∧ helio.cfg.candidates.head? = some 0 ∧ cfg.aims[0]? = some ⟨5, ⟨0, 0, 6000⟩⟩ ∧
      helio.engaged = .track ∧ helio.assignment = none ∧ { helio with assignment := some 1 }.assignment = some 1 ∧
      IsNormal ⟨0, -14189, 8192⟩ helio.cfg.pivot ⟨0, 0, 6000⟩ ⟨0, -27296, 18022⟩ := by
  refine ⟨by decide, by decide, by decide, by decide, by decide, by decide, by decide, by decide, 10000, ?_⟩
  simp only [RootOf, RoundsTo, squares]; decide

/-- The station with its first elevation axis in a drive state. -/
def driving (d : DriveState) (period phase : Nat) (index : Bool) : State :=
  with0 { helio with el := { axis with drive := d, period := period, phaseCount := phase, index := index, target := 3 } }

theorem witness_AxisStepCounts :
    (∀ d ∈ [DriveState.trackMode, .slewAccel, .slewDecel, .reversing, .homeSearch, .homeBackoff],
      (driving d 400 0 true).inReset = false ∧ EngagedOk (driving d 400 0 true) ∧
        (driving d 400 0 true).helios[0].cfg.present = true ∧ ((driving d 400 0 true).helios[0].axis .el).period ≠ 0 ∧
        ((driving d 400 0 true).helios[0].axis .el).counter ≤ 1 ∧
        ((driving d 400 0 true).helios[0].axis .el).drive = d) ∧
      1 < ((homing .el { axis with period := 700, counter := 2 }).helios[0].axis .el).counter ∧
      400 < prm.startPeriod ∧ prm.startPeriod ≤ ((driving .reversing 500 0 true).helios[0].axis .el).period ∧
      0 + 1 < prm.homeMax ∧ prm.homeMax ≤ 1 + 1 ∧ (driving .homeSearch 700 1 false).helios[0].fault = .none ∧
      ((driving .homeBackoff 700 0 false).helios[0].axis .el).index = false := by decide

theorem witness_WrittenTargetsMoveAndArrive :
    let x : Axis := { axis with drive := .trackMode, period := 800, dir := .pos, lastDir := .pos, target := 3 }
    (axis.drive = .rest ∧ 1 ≤ 3 - x.position ∧ 3 - x.position ≤ x.prm.fineWindow ∧ x.prm.fineWindow < 21 - x.position ∧
      0 - x.position ≤ 0 ∧ x.prm.startPeriod ≤ x.period ∧ x.stepActive = false) ∧
    x.drive = .trackMode ∧ x.dir = x.lastDir ∧ x.takeUp = 0 ∧ x.period ≠ 0 ∧ x.remaining = ((2 : Nat) : Int) + 1 ∧
      -2147483648 ≤ x.position ∧ x.position ≤ 2147483647 ∧ -2147483648 ≤ x.target ∧ x.target ≤ 2147483647 := by decide

theorem witness_IndexEdgeCases :
    let s := slewing 1001 995 400 .neg
    let far := slewing 1021 995 400 .neg
    let el := homing .el { axis with drive := .homeSearch, period := 700 }
    let az := homing .az { axis with drive := .homeSearch, period := 700 }
    (s.inReset = false ∧ EngagedOk s ∧ s.helios[0].cfg.present = true ∧ (s.helios[0].axis .el).index = false) ∧
      ((s.helios[0].axis .el).edgeChecked = true ∧ (far.helios[0].axis .el).edgeChecked = true ∧ EngagedOk far ∧
        (far.helios[0].axis .el).prm.slipTol < 21 ∧ far.helios[0].fault = .none) ∧
      (EngagedOk el ∧ (el.helios[0].axis .el).drive = .homeSearch ∧ el.helios[0].homed = false) ∧
      (EngagedOk az ∧ (az.helios[0].axis .az).drive = .homeSearch ∧ az.helios[0].usable = true) ∧
      ((station.helios[0].axis .el).edgeChecked = false ∧ (station.helios[0].axis .el).drive ≠ .homeSearch) ∧
      ({ axis with index := true } : Axis).index = true := by decide

theorem witness_FaultsStopBothAxes :
    EngagedOk (driving .homeSearch 700 2 false) ∧ ((driving .homeSearch 700 2 false).helios[0].axis .el).homingPhase = true ∧
      prm.homeMax ≤ ((driving .homeSearch 700 2 false).helios[0].axis .el).phaseCount ∧
      (driving .homeSearch 700 2 false).helios[0].fault = .none ∧ station.drven 0 = true ∧
      station.helios[0].drvflt = false ∧ station.drven 1 = false ∧ station.helios[1].cfg.present = true := by decide

theorem witness_StowInputModes :
    (station.running = true ∧ station.cfg.stowEdge = false ∧ station.stowin = false ∧
      (after station (.stowInputChange pinLow)).stowin = true ∧ (∃ t, exec (.stowRelease 255) station = .next t)) ∧
    (edgeMode false false).running = true ∧ (edgeMode false false).cfg.stowEdge = true ∧
      (edgeMode false false).stowin = false ∧ (edgeMode true true).stowin = true ∧ (edgeMode true true).running = true ∧
      (edgeMode true false).src.stowLine = true ∧ EngagedOk (edgeMode true false) :=
  ⟨⟨by decide, by decide, by decide, by decide, _, rfl⟩, by decide⟩

theorem witness_TripStartsAGeneration :
    station.running = true ∧ station.tripin = false ∧ station.dcu.generating = false ∧ station.dcu.active = false ∧
      (inCode true false).dcu.active = true ∧ (inCode true true).dcu.generating = true ∧
      (after station (.tripEdge pinLow)).tripin = true := by decide

theorem witness_BitsLockAndDetect :
    listening.running = true ∧ listening.dcu.generating = false ∧
      matchesPattern listening.cfg.activate (addHistory listening.dcu.act.history false) = true ∧
      listening.dcu.act.locked = false ∧ listening.activateDetected false = false ∧
      listening.releaseDetected false = false ∧ detecting.activateDetected false = true ∧
      detecting.releaseDetected false = false ∧
      { detecting with dcu := { detecting.dcu with rel := { detecting.dcu.rel with run := 6999 } } }.releaseDetected true =
        true ∧ detecting.activateDetected true = false ∧
      (let both := { detecting with dcu := { detecting.dcu with
        rel := { history := [], locked := true, phase := 0, run := 6999 } } }
      both.running = true ∧ both.dcu.generating = false ∧ both.activateDetected false = true ∧
        both.releaseDetected false = true) ∧
      (∀ idle ∈ [0, 18, 19], { listening.bi.rx with held := true, idle := idle }.held = true) ∧
      (after { listening with bi := { listening.bi with rx := { listening.bi.rx with held := true, idle := 19 } } }
        (.detectorLock true)).bi.rx.held = false ∧
      (after { listening with bi := { listening.bi with rx := { listening.bi.rx with held := true, idle := 18 } } }
        (.detectorLock true)).bi.rx.idle = 19 ∧
      (after { listening with bi := { listening.bi with rx := { listening.bi.rx with held := true, idle := 18 } } }
        (.detectorLock false)).bi.rx.idle = 0 := by decide

theorem witness_WindowsMeasure :
    station.running = true ∧ station.irm.running = true ∧ station.irm.timer < 249999 ∧
      { station.irm with timer := 249999 }.timer = 249999 ∧ { station.irm with running := false }.running = false := by decide

theorem witness_PlanningIrradianceStaysInBounds :
    IrradianceOk (queued .windowEnd) ∧ ∃ t, step (queued .windowEnd) = .next t := ⟨by decide, _, rfl⟩

set_option maxRecDepth 100000 in
theorem witness_LoadEndsInSyncingOrFault :
    State.reset.sc.state = .loading ∧ State.reset.inReset = false ∧ (strapped 57).sc.number = 57 ∧ judgeImage 7 [] = none ∧
      (judgeImage 57 image).isSome = true ∧ (judgeImage 399 image).isSome = true ∧ (judgeImage 400 image).isNone = true ∧
      (judgeImage 57 image).map (fun v => v.records[0].cfg.present && v.records[0].cfg.initialIn) = some true ∧
      State.reset.helios[0].engaged = .none ∧ State.reset.helios[0].fault = .none ∧ State.reset.helios[0].homed = false ∧
      State.reset.helios[0].drvflt = false ∧ (after State.reset (.driveFault 0 pinLow)).helios[0].drvflt = true ∧
      State.reset.pt.residue = [] ∧ State.reset.fa.plan = [] := by decide +kernel

theorem witness_EveryTransitionLatches :
    station.running = true ∧ (after station (.stowField 255)).running = true ∧
      exec (.stowField 255) station = .next (after station (.stowField 255)) ∧
      station.conditions ≠ (after station (.stowField 255)).conditions := ⟨by decide, by decide, rfl, by decide⟩

/-- The station whose first heliostat waits for its azimuth edge. -/
def searching : State := homing .az { axis with drive := .homeSearch, period := 700 }

theorem witness_OnlyTheseEvents :
    (exec (.powerOnReset ⟨true, 57⟩) station = .next (after station (.powerOnReset ⟨true, 57⟩)) ∧ station.sc.por = false ∧
      (after station (.powerOnReset ⟨true, 57⟩)).sc.por = true) ∧
    ((inState .silent).sc.state = .silent ∧ (after (inState .silent) (.restart 255)).sc.state ≠ .silent) ∧
    (searching.helios[0].homed = false ∧ (after searching (.indexEdge 0 .az pinHigh)).helios[0].homed = true) ∧
    (sending.helios[0].assignment ≠ some 0 ∧ (after sending .transmitCompletion).helios[0].assignment = some 0) :=
  ⟨⟨rfl, by decide, by decide⟩, by decide, by decide, by decide⟩

theorem witness_StationRegistersStayInRange :
    RangesOk (queued (.slotStart 57)) ∧ ∃ t, step (queued (.slotStart 57)) = .next t := ⟨by decide, _, rfl⟩

set_option synthInstance.maxSize 100000 in
set_option synthInstance.maxHeartbeats 200000 in
theorem witness_DriveRegistersStayInRange :
    HelioRangesOk { searching with pending := [.axisStep 0 .az] } ∧
      ∃ t, step { searching with pending := [.axisStep 0 .az] } = .next t := ⟨by decide, _, rfl⟩

/-- The station with its outcome queue full. -/
def fullQueue : State :=
  { station with bi := { station.bi with outcomes := List.replicate 4 ⟨2, 255, .state, true⟩ } }

theorem witness_OutcomeQueueHoldsFour :
    fullQueue.running = true ∧ ((0 : Byte) = 0 ∨ 16 ≤ (0 : Byte).toNat) ∧ ((16 : Byte) = 0 ∨ 16 ≤ (16 : Byte).toNat) ∧
      fullQueue.bi.outcomes.length = 4 ∧ station.bi.outcomes.length < 4 := by decide

end Sys2Proof.Tests
end

section
/-! The ranges of chapters 1 to 3: what each operation of an axis and of a heliostat keeps of them. -/

namespace Sys2Proof.Machine

/-! ## Parameters and registers of an axis (R43 to R57) -/

/-- R43: the parameters of an axis within their ranges. -/
structure AxisParams.InRange (p : AxisParams) : Prop where
  softMin : Signed32 p.softMin
  softMax : Signed32 p.softMax
  indexPos : Signed32 p.indexPos
  startPeriod : p.startPeriod ≤ 65535
  slewPeriod : p.slewPeriod ≤ 65535
  trackPeriod : p.trackPeriod ≤ 65535
  homePeriod : p.homePeriod ≤ 65535
  backlash : p.backlash ≤ 255
  homeMax : p.homeMax ≤ 50000000

/-- The registers and parameters of an axis within their ranges, whatever its drive state. -/
structure Axis.InRange (a : Axis) : Prop where
  position : Signed32 a.position
  target : Signed32 a.target
  period : a.period ≤ 65535
  counter : a.counter ≤ 65535
  takeUp : a.takeUp ≤ 255
  phaseCount : a.phaseCount ≤ 50000000
  prm : a.prm.InRange

/-- R57: a homing phase is short of HOME_MAX. -/
def Axis.Short (a : Axis) : Prop := a.homingPhase = true → a.phaseCount < a.prm.homeMax

theorem axisOk_iff (h : Helio) (a : Axis) :
    AxisOk h a ↔ a.InRange ∧ a.Short ∧ (h.cfg.present = true → 1 ≤ a.prm.homeMax) ∧
      (a.homingPhase = true → h.cfg.present = true ∧ h.fault = .none) := by
  constructor
  · rintro ⟨po, ta, pe, co, tu, ph, mi, ma, ip, sp, sl, tr, hp, ba, hm, one, hom⟩
    exact ⟨⟨po, ta, pe, co, tu, ph, ⟨mi, ma, ip, sp, sl, tr, hp, ba, hm⟩⟩, fun x => (hom x).2.2, one,
      fun x => ⟨(hom x).1, (hom x).2.1⟩⟩
  · rintro ⟨⟨po, ta, pe, co, tu, ph, ⟨mi, ma, ip, sp, sl, tr, hp, ba, hm⟩⟩, sh, one, hom⟩
    exact ⟨po, ta, pe, co, tu, ph, mi, ma, ip, sp, sl, tr, hp, ba, hm, one, fun x => ⟨(hom x).1, (hom x).2, sh x⟩⟩

/-- An axis that is in no homing phase is within the ranges of any heliostat of its parameters, faulted or not. -/
theorem axisOk_of_still {h : Helio} {a : Axis} (r : a.InRange) (one : h.cfg.present = true → 1 ≤ a.prm.homeMax)
    (still : a.homingPhase = false) : AxisOk h a :=
  (axisOk_iff h a).2 ⟨r, by simp [Axis.Short, still], one, by simp [still]⟩

theorem AxisOk.inRange {h : Helio} {a : Axis} (ok : AxisOk h a) : a.InRange := ((axisOk_iff h a).1 ok).1
theorem AxisOk.short {h : Helio} {a : Axis} (ok : AxisOk h a) : a.Short := ((axisOk_iff h a).1 ok).2.1
theorem AxisOk.homeMax_pos {h : Helio} {a : Axis} (ok : AxisOk h a) : h.cfg.present = true → 1 ≤ a.prm.homeMax :=
  ((axisOk_iff h a).1 ok).2.2.1

/-- An axis operation that leaves the parameters, starts no homing phase and keeps the ranges keeps them for a heliostat. -/
theorem AxisOk.step {h : Helio} {a b : Axis} (ok : AxisOk h a) (r : b.InRange) (prm : b.prm = a.prm)
    (phase : b.homingPhase = true → a.homingPhase = true ∧ b.phaseCount < b.prm.homeMax) : AxisOk h b := by
  obtain ⟨-, -, one, hom⟩ := (axisOk_iff h a).1 ok
  exact (axisOk_iff h b).2 ⟨r, fun x => (phase x).2, prm ▸ one, fun x => hom (phase x).1⟩

/-- R46: a position after a step is a signed 32-bit value. -/
theorem fitPosition_signed (x : Int) : Signed32 (fitPosition x) := by
  simp only [fitPosition]
  split
  · assumption
  · have lo := BitVec.le_toInt (Config.positionBeyondRange x)
    have hi := BitVec.toInt_lt (x := Config.positionBeyondRange x)
    norm_num at lo hi
    exact ⟨lo, by omega⟩

theorem clampTo_signed {lo hi x : Int} (l : Signed32 lo) (h : Signed32 hi) : Signed32 (clampTo lo hi x) := by
  simp only [clampTo]
  repeat' split
  · exact l
  · exact h
  · exact ⟨by omega, by omega⟩

theorem Axis.soft_signed {a : Axis} (r : a.InRange) (x : Int) : Signed32 (a.soft x) :=
  clampTo_signed r.prm.softMin r.prm.softMax

namespace Axis.InRange

variable {a : Axis}

theorem startGenerator (r : a.InRange) {p : Nat} (hp : p ≤ 65535) : (a.startGenerator p).InRange :=
  { r with
    period := hp
    counter := by have := r.counter; simp only [Axis.startGenerator]; split <;> omega }

theorem startMove (r : a.InRange) : a.startMove.InRange := by
  have moving : ∀ (d : Dir) (m : DriveState), ({ a with dir := d, drive := m } : Axis).InRange := fun d m => { r with }
  simp only [Axis.startMove]
  generalize (if a.position < a.target then Dir.pos else Dir.neg) = d
  split
  · exact r
  split
  · exact Axis.InRange.startGenerator (moving d _) r.prm.startPeriod
  · exact Axis.InRange.startGenerator (moving d _) r.prm.trackPeriod

theorem enterReversing (r : a.InRange) : a.enterReversing.InRange := by
  simp only [Axis.enterReversing]
  split
  · exact Axis.InRange.startMove { r with period := Nat.zero_le _ }
  · exact { r with }

theorem writeTarget (r : a.InRange) {t : Int} (ht : Signed32 t) : (a.writeTarget t).InRange := by
  have b : ({ a with target := t } : Axis).InRange := { r with target := ht }
  simp only [Axis.writeTarget]
  repeat' split
  · exact b.startMove
  · exact b.enterReversing
  · exact { b with period := r.prm.startPeriod }
  · exact b
  · exact b.enterReversing
  · exact b
  · exact b.enterReversing
  · exact b
  all_goals exact b

/-- R46, R57: a counted step keeps the ranges where a homing phase was short of HOME_MAX. -/
theorem countStep (r : a.InRange) (s : a.Short) : a.countStep.InRange where
  position := by
    simp only [Axis.countStep]
    generalize (if a.dir = a.lastDir then a.takeUp else a.prm.backlash) = owed
    split
    · exact fitPosition_signed _
    · exact r.position
  target := r.target
  period := r.period
  counter := r.counter
  takeUp := by
    have t := r.takeUp
    have b := r.prm.backlash
    simp only [Axis.countStep]
    split <;> omega
  phaseCount := by
    have p := r.phaseCount
    have m := r.prm.homeMax
    simp only [Axis.countStep]
    split
    · have := s ‹_›; omega
    · exact p
  prm := r.prm

theorem stopNow (r : a.InRange) (s : a.Short) : a.stopNow.InRange := by
  simp only [Axis.stopNow]
  repeat' split
  · exact r
  · exact { r.countStep s with period := Nat.zero_le _, counter := Nat.zero_le _ }
  · exact { r with period := Nat.zero_le _ }

theorem halt (r : a.InRange) (s : a.Short) : a.halt.InRange :=
  { r.stopNow s with target := (r.stopNow s).position }

theorem beginHoming (r : a.InRange) : a.beginHoming.InRange := by
  simp only [Axis.beginHoming]
  split
  all_goals
    refine Axis.InRange.startGenerator ?_ r.prm.homePeriod
    exact { r with phaseCount := Nat.zero_le _ }

theorem finishHoming (r : a.InRange) (s : a.Short) : a.finishHoming.InRange :=
  { r.stopNow s with
    position := r.prm.indexPos
    target := r.prm.indexPos
    prm := (r.stopNow s).prm }

theorem resync (r : a.InRange) : a.resync.InRange := by
  have b : ({ a with position := a.prm.indexPos } : Axis).InRange := { r with position := r.prm.indexPos }
  simp only [Axis.resync]
  split
  · exact b.enterReversing
  · exact b

theorem slewDecision (r : a.InRange) : a.slewDecision.InRange := by
  have s := r.prm.startPeriod
  have l := r.prm.slewPeriod
  have p := r.period
  simp only [Axis.slewDecision]
  repeat' split
  · exact { r with period := Nat.zero_le _ }
  · exact { r with period := s }
  · exact { r with period := (Nat.min_le_right _ _).trans s }
  · exact { r with period := by show max _ _ ≤ _; omega }

theorem reversingDecision (r : a.InRange) : a.reversingDecision.InRange := by
  simp only [Axis.reversingDecision]
  split
  · exact Axis.InRange.startMove { r with period := Nat.zero_le _ }
  · exact { r with period := (Nat.min_le_right _ _).trans r.prm.startPeriod }

theorem stepDecision (r : a.InRange) : a.stepDecision.InRange := by
  simp only [Axis.stepDecision]
  repeat' split
  · exact r
  · exact r
  · exact { r with period := Nat.zero_le _ }
  · exact r
  · exact r.slewDecision
  · exact r.slewDecision
  · exact r.reversingDecision
  · exact r
  · exact { r with period := r.prm.homePeriod, phaseCount := Nat.zero_le _ }

theorem advance (r : a.InRange) : a.advance.InRange := by
  simp only [Axis.advance]
  split
  · exact { r with counter := (Nat.sub_le _ _).trans r.counter }
  · exact r

end Axis.InRange

/-! ## Homing phases begin by a homing start alone (R55, R56) -/

theorem Axis.homingPhase_eq (a : Axis) : a.homingPhase = true ↔ a.drive = .homeBackoff ∨ a.drive = .homeSearch := by
  simp [Axis.homingPhase]

@[simp] theorem Axis.startMove_still {a : Axis} (h : a.homingPhase = false) : a.startMove.homingPhase = false := by
  simp only [Axis.startMove]
  repeat' split
  · exact h
  all_goals rfl

@[simp] theorem Axis.enterReversing_still (a : Axis) : a.enterReversing.homingPhase = false := by
  simp only [Axis.enterReversing]
  split
  · exact Axis.startMove_still rfl
  · rfl

/-- R47, R51: a written target changes no homing phase. -/
@[simp] theorem Axis.writeTarget_homingPhase (a : Axis) (t : Int) : (a.writeTarget t).homingPhase = a.homingPhase := by
  by_cases p : a.homingPhase = true
  · rcases a.homingPhase_eq.1 p with d | d <;> simp [Axis.writeTarget, Axis.homingPhase, d]
  · have still : ∀ x : Axis, x.drive = a.drive → x.homingPhase = false := by
      intro x d; simpa [Axis.homingPhase, d] using p
    rw [Bool.eq_false_iff.2 p]
    simp only [Axis.writeTarget]
    repeat' split
    · exact Axis.startMove_still (still _ rfl)
    · exact Axis.enterReversing_still _
    · rfl
    · exact still _ rfl
    · exact Axis.enterReversing_still _
    · exact still _ rfl
    · exact Axis.enterReversing_still _
    · exact still _ rfl
    all_goals exact still _ rfl

@[simp] theorem Axis.halt_still (a : Axis) : a.halt.homingPhase = false := rfl

end Sys2Proof.Machine
end

section
namespace Sys2Proof.Machine

/-! ## The record of a heliostat (R1, R9) -/

/-- The values of a heliostat record and of its axes within their ranges, by name. -/
structure Helio.InRange (h : Helio) : Prop where
  p : h.p ≤ 65535
  countedP : h.countedP ≤ 65535
  placementP : h.placementP ≤ 65535
  c : h.c ≤ 32767
  lastAz : h.lastAz ≤ 65535
  lastEl_ge : -16384 ≤ h.lastEl
  lastEl_le : h.lastEl ≤ 16384
  area : h.cfg.area ≤ 600
  delivery : h.cfg.delivery ≤ 255
  stowAz : Signed32 h.cfg.stow.az
  stowEl : Signed32 h.cfg.stow.el
  hold : StepsOk h.hold
  snapshot : StepsOk h.snapshot
  az : AxisOk h h.az
  el : AxisOk h h.el

theorem helioOk_iff (h : Helio) : HelioOk h ↔ h.InRange := by
  constructor
  · rintro ⟨p, cp, pp, c, la, l1, l2, ar, de, sa, se, ho, sn, az, el⟩
    exact ⟨p, cp, pp, c, la, l1, l2, ar, de, sa, se, ho, sn, az, el⟩
  · rintro ⟨p, cp, pp, c, la, l1, l2, ar, de, sa, se, ho, sn, az, el⟩
    exact ⟨p, cp, pp, c, la, l1, l2, ar, de, sa, se, ho, sn, az, el⟩

/-- Neither axis is in a homing phase. -/
def Helio.Still (h : Helio) : Prop := h.az.homingPhase = false ∧ h.el.homingPhase = false

theorem Helio.InRange.axis {h : Helio} (r : h.InRange) (a : AxisId) : AxisOk h (h.axis a) := by
  cases a
  · exact r.az
  · exact r.el

/-- A heliostat with one axis replaced by one within its ranges. -/
theorem Helio.InRange.setAxis {h : Helio} (r : h.InRange) (a : AxisId) {x : Axis} (ok : AxisOk h x) :
    (h.setAxis a x).InRange := by
  cases a
  · exact { r with az := ok, el := r.el }
  · exact { r with az := r.az, el := ok }

/-! ## Levels entered and left (R68 to R72) -/

theorem AxisOk.writeTarget {h : Helio} {a : Axis} (ok : AxisOk h a) {t : Int} (ht : Signed32 t) :
    AxisOk h (a.writeTarget t) :=
  ok.step (ok.inRange.writeTarget ht) (by simp) fun p => by
    rw [Axis.writeTarget_homingPhase] at p
    exact ⟨p, by simpa using ok.short p⟩

theorem AxisOk.halt {h h' : Helio} {a : Axis} (ok : AxisOk h a) (cfg : h'.cfg = h.cfg) : AxisOk h' a.halt :=
  axisOk_of_still (ok.inRange.halt ok.short) (by rw [cfg, a.halt_spec.2.2.2.1]; exact ok.homeMax_pos) a.halt_still

/-- R55, R56: a phase that begins on an axis of a present heliostat without a fault has its count at 0. -/
theorem AxisOk.beginHoming {h : Helio} {a : Axis} (r : a.InRange) (one : 1 ≤ a.prm.homeMax)
    (present : h.cfg.present = true) (f : h.fault = .none) : AxisOk h a.beginHoming := by
  have z : a.beginHoming.phaseCount = 0 := by simp only [Axis.beginHoming]; split <;> rfl
  refine (axisOk_iff _ _).2 ⟨r.beginHoming, fun _ => ?_, fun _ => ?_, fun _ => ⟨present, f⟩⟩
  · rw [z, Axis.beginHoming_prm]; exact one
  · rw [Axis.beginHoming_prm]; exact one

namespace Helio.InRange

variable {h : Helio}

theorem writeTargets (r : h.InRange) {t : Steps} (az : Signed32 t.az) (el : Signed32 t.el) :
    (h.writeTargets t).InRange :=
  { r with az := AxisOk.writeTarget (h := h) r.az az, el := AxisOk.writeTarget (h := h) r.el el }

theorem softSteps (r : h.InRange) (t : Steps) : Signed32 (h.softSteps t).az ∧ Signed32 (h.softSteps t).el :=
  ⟨Axis.soft_signed r.az.inRange _, Axis.soft_signed r.el.inRange _⟩

theorem leave (r : h.InRange) : h.leave.InRange := by
  simp only [Helio.leave]
  split
  · exact { r with placementP := Nat.zero_le _ }
  · exact { r with snapshot := by simp [StepsOk] }
  all_goals exact r

theorem enter (r : h.InRange) (l : Level) : (h.enter l).InRange := by
  cases l with
  | none | standby | track => exact { r with }
  | stow => exact Helio.InRange.writeTargets (h := { h with engaged := .stow }) { r with } r.stowAz r.stowEl
  | hold =>
    simp only [Helio.enter]
    split
    · exact { r with }
    · rename_i t ht
      have s := r.hold t (by simp [ht])
      exact Helio.InRange.writeTargets (h := { h with engaged := .hold }) { r with } s.1 s.2
  | defocus =>
    have s := r.softSteps h.defocusPoint
    refine Helio.InRange.writeTargets ?_ s.1 s.2
    exact { r with snapshot := by simpa [StepsOk] using s }

theorem reengage (r : h.InRange) (src : Sources) (l : Bool) : (h.reengage src l).InRange := by
  rcases h.reengage_cases src l with ⟨-, e⟩ | ⟨-, e⟩ <;> rw [e]
  · exact r
  · exact r.leave.enter _

/-! ## Faults, homing and service (R14, R15, R54 to R62) -/

theorem detect (r : h.InRange) (k : HelioFault) : (h.detect k).InRange := by
  rcases h.detect_cases k with ⟨-, e⟩ | ⟨-, e⟩ <;> rw [e]
  · exact r
  · exact { r with placementP := Nat.zero_le _, az := AxisOk.halt r.az rfl, el := AxisOk.halt r.el rfl }

/-- R54, R55: a heliostat that is present and without a fault starts homing within its ranges. -/
theorem homingStart (r : h.InRange) (present : h.cfg.present = true) (f : h.fault = .none) :
    h.homingStart.InRange := by
  have el : AxisOk (homingBegun h) h.el.stopNow.beginHoming :=
    AxisOk.beginHoming (r.el.inRange.stopNow r.el.short) (by rw [Axis.stopNow_prm]; exact r.el.homeMax_pos present) present f
  have az : AxisOk (homingBegun h) { h.az.stopNow with drive := .rest } :=
    axisOk_of_still { r.az.inRange.stopNow r.az.short with } (fun p => by
      show 1 ≤ h.az.stopNow.prm.homeMax
      rw [Axis.stopNow_prm]; exact r.az.homeMax_pos p) rfl
  have b : (homingBegun h).InRange := { r with az := az, el := el }
  simp only [Helio.homingStart]
  split
  · exact b.detect _
  · exact b

/-- R56: the edge that ends the search of an axis of a heliostat, which is then present and without a fault. -/
theorem homingEdge (r : h.InRange) (a : AxisId) (d : (h.axis a).drive = .homeSearch) : (h.homingEdge a).InRange := by
  obtain ⟨-, -, -, hom⟩ := (axisOk_iff _ _).1 (r.axis a)
  obtain ⟨present, f⟩ := hom ((Axis.homingPhase_eq _).2 (.inr d))
  have fin : ∀ x : Axis, AxisOk h x → AxisOk h x.finishHoming := fun x ok =>
    axisOk_of_still (ok.inRange.finishHoming ok.short) (by rw [x.finishHoming_spec.2.2.2.2.2.1]; exact ok.homeMax_pos) rfl
  cases a with
  | az => exact { r with az := fin h.az r.az, el := r.el }
  | el => exact { r with
      el := fin h.el r.el
      az := AxisOk.beginHoming (h := h) r.az.inRange (r.az.homeMax_pos present) present f }

theorem homefailTest (r : h.InRange) (a : AxisId) : (h.homefailTest a).InRange := by
  simp only [Helio.homefailTest]
  split
  · exact r.detect _
  · exact r

theorem takeOut (r : h.InRange) : h.takeOut.InRange :=
  { r with placementP := Nat.zero_le _, az := AxisOk.halt r.az rfl, el := AxisOk.halt r.el rfl }

theorem clearFault (r : h.InRange) : ({ h with fault := .none } : Helio).InRange := by
  have ok : ∀ a : Axis, AxisOk h a → AxisOk { h with fault := .none } a := by
    intro a ok
    obtain ⟨i, s, m, p⟩ := (axisOk_iff h a).1 ok
    exact (axisOk_iff _ a).2 ⟨i, s, m, fun x => ⟨(p x).1, rfl⟩⟩
  exact { r with az := ok _ r.az, el := ok _ r.el }

theorem takeIn (r : h.InRange) : h.takeIn.InRange := { r.clearFault with }

theorem rehome (r : h.InRange) (present : h.cfg.present = true) : h.rehome.InRange :=
  r.clearFault.homingStart present rfl

theorem takeHold (r : h.InRange) (t : Steps) : (h.takeHold t).InRange := by
  have s := r.softSteps t
  have b : ({ h with hold := some (h.softSteps t), limit := h.limit || h.softSteps t != t } : Helio).InRange :=
    { r with hold := by simpa [StepsOk] using s }
  simp only [Helio.takeHold]
  split
  · exact b.writeTargets s.1 s.2
  · exact b

theorem restart (r : h.InRange) : h.restart.InRange := by
  have ok : ∀ a : Axis, AxisOk h a → AxisOk h a.restart := fun a ok =>
    axisOk_of_still { ok.inRange.halt ok.short with phaseCount := Nat.zero_le _ }
      (by simpa [Axis.restart, a.halt_spec.2.2.2.1] using ok.homeMax_pos) rfl
  exact { r with
    p := Nat.zero_le _, countedP := Nat.zero_le _, placementP := Nat.zero_le _, c := Nat.zero_le _
    lastAz := Nat.zero_le _, lastEl_ge := (by decide : (-16384 : Int) ≤ 0), lastEl_le := (by decide : (0 : Int) ≤ 16384)
    hold := by simp [StepsOk, Helio.restart], snapshot := by simp [StepsOk, Helio.restart]
    az := ok _ r.az, el := ok _ r.el }

end Helio.InRange

/-- The values a channel holds after a power-on reset or RESETn are within their ranges. -/
theorem Axis.blank_inRange : Axis.blank.InRange := by
  constructor
  case prm => constructor <;> decide
  all_goals decide

theorem Helio.blank_inRange : Helio.blank.InRange := by
  have a : AxisOk Helio.blank Axis.blank := axisOk_of_still Axis.blank_inRange (by decide) rfl
  constructor
  case az => exact a
  case el => exact a
  all_goals simp [Helio.blank, HelioConfig.blank, Signed32, StepsOk]

theorem Helio.cleared_inRange (h : Helio) : h.cleared.InRange :=
  { Helio.blank_inRange with az := Helio.blank_inRange.az, el := Helio.blank_inRange.el }

/-! ## Steps and index edges (R44, R46, R53) -/

@[simp] theorem Axis.stepDecision_prm (a : Axis) : a.stepDecision.prm = a.prm := by
  simp only [Axis.stepDecision, Axis.slewDecision, Axis.reversingDecision, Axis.arrive]
  repeat' split
  all_goals simp

/-- R49 to R56: a decision starts no homing phase; in one it goes on, or the search begins with its count at 0. -/
theorem Axis.stepDecision_phase (a : Axis) :
    (a.homingPhase = false ∧ a.stepDecision.homingPhase = false) ∨
      (a.homingPhase = true ∧ (a.stepDecision = a ∨ a.stepDecision =
        { a with drive := .homeSearch, dir := .neg, phaseCount := 0, period := a.prm.homePeriod })) := by
  cases d : a.drive with
  | rest => exact .inl ⟨by simp [Axis.homingPhase, d], by simp [Axis.stepDecision, Axis.homingPhase, d]⟩
  | trackMode =>
    refine .inl ⟨by simp [Axis.homingPhase, d], ?_⟩
    simp only [Axis.stepDecision, d, Axis.arrive]
    split
    · rfl
    · simp [Axis.homingPhase, d]
  | slewAccel | slewDecel =>
    refine .inl ⟨by simp [Axis.homingPhase, d], ?_⟩
    simp only [Axis.stepDecision, d, Axis.slewDecision, Axis.arrive]
    repeat' split
    all_goals rfl
  | reversing =>
    refine .inl ⟨by simp [Axis.homingPhase, d], ?_⟩
    simp only [Axis.stepDecision, d, Axis.reversingDecision]
    split
    · exact Axis.startMove_still rfl
    · rfl
  | homeBackoff =>
    refine .inr ⟨by simp [Axis.homingPhase, d], ?_⟩
    simp only [Axis.stepDecision, d]
    split
    · exact .inl rfl
    · exact .inr rfl
  | homeSearch => exact .inr ⟨by simp [Axis.homingPhase, d], .inl (by simp [Axis.stepDecision, d])⟩

/-- An axis whose counter stands at 0 has no step to count where it stops. -/
theorem Axis.halt_of_idle {a : Axis} (c : a.counter = 0) :
    a.halt = { a with period := 0, drive := .rest, target := a.position } := by
  have q : a.stopNow = { a with period := 0 } := by
    have i : a.stepActive = false := by simp [Axis.stepActive, c]
    simp only [Axis.stopNow, i]
    split
    · rename_i z; cases a; cases z; rfl
    · rfl
  simp [Axis.halt, q]

/-- R44, R57: a step of an axis keeps the ranges: a homing phase that reaches HOME_MAX with it has ended. -/
theorem Helio.InRange.stepAxis {h : Helio} (r : h.InRange) (a : AxisId) : (h.stepAxis a).InRange := by
  obtain ⟨ir, sh, one, hom⟩ := (axisOk_iff _ _).1 (r.axis a)
  set y : Axis := ({ h.axis a with counter := 0 } : Axis).countStep with hy
  set x : Axis := (h.axis a).stepAndDecide with hx
  have yr : y.InRange := Axis.InRange.countStep { ir with counter := Nat.zero_le _ } sh
  have xr : x.InRange := yr.stepDecision
  have xp : x.prm = (h.axis a).prm := y.stepDecision_prm
  have phase : x.homingPhase = true → (h.axis a).homingPhase = true := by
    intro p
    rcases y.stepDecision_phase with ⟨-, q⟩ | ⟨q, -⟩
    · exact absurd (p.symm.trans q) (by decide)
    · exact q
  show (((h.setAxis a x).homefailTest a).setAxis a (((h.setAxis a x).homefailTest a).axis a).reload).InRange
  simp only [Helio.homefailTest, Helio.axis_setAxis]
  split
  · rename_i e
    simp only [Axis.homingExpired, Bool.and_eq_true, decide_eq_true_eq] at e
    have f : h.fault = .none := (hom (phase e.1)).2
    have c : x.counter = 0 := by
      rcases y.stepDecision_phase with ⟨-, q⟩ | ⟨-, q | q⟩
      · exact absurd (e.1.symm.trans q) (by decide)
      · exact congrArg Axis.counter q
      · exact congrArg Axis.counter q
    have d : (h.setAxis a x).detect .homefail = (h.detect .homefail).setAxis a x.halt := by
      cases a <;> simp [Helio.detect, Helio.setAxis, f]
    rw [d, Helio.axis_setAxis, Helio.setAxis_setAxis, Axis.halt_of_idle c]
    refine (r.detect .homefail).setAxis a (axisOk_of_still ?_ ?_ rfl)
    · exact { xr with target := xr.position, period := Nat.zero_le _, counter := Nat.zero_le _ }
    · have : (h.detect .homefail).cfg = h.cfg := by simp [Helio.detect, f]
      rw [this]; exact xp ▸ one
  · rename_i e
    simp only [Axis.homingExpired, Bool.and_eq_true, decide_eq_true_eq, not_and, not_le] at e
    rw [Helio.axis_setAxis, Helio.setAxis_setAxis]
    exact r.setAxis a ((axisOk_iff _ _).2 ⟨{ xr with counter := xr.period }, e, xp ▸ one, fun p => hom (phase p)⟩)

/-- R53: a re-synced axis is in no homing phase that it was not in. -/
theorem Axis.resync_phase {a : Axis} (p : a.resync.homingPhase = true) :
    a.homingPhase = true ∧ a.resync = { a with position := a.prm.indexPos } := by
  simp only [Axis.resync] at p ⊢
  split at p
  · simp at p
  · rename_i n
    rw [if_neg n]
    exact ⟨p, rfl⟩

theorem Helio.InRange.resync {h : Helio} (r : h.InRange) (a : AxisId) :
    (h.setAxis a (h.axis a).resync).InRange := by
  have ok := r.axis a
  refine r.setAxis a (ok.step ok.inRange.resync (Axis.resync_spec _).2.2 fun p => ?_)
  obtain ⟨q, e⟩ := Axis.resync_phase p
  exact ⟨q, by rw [e]; exact ok.short q⟩

theorem Helio.InRange.setIndex {h : Helio} (r : h.InRange) (a : AxisId) (level : Bool) :
    (h.setIndex a level).InRange := r.setAxis a (r.axis a)

theorem Axis.advance_phase (a : Axis) : a.advance.homingPhase = a.homingPhase := by
  rw [a.advance_frame]; rfl

theorem Helio.InRange.advance {h : Helio} (r : h.InRange) :
    ({ h with az := h.az.advance, el := h.el.advance } : Helio).InRange := by
  have ok : ∀ a : Axis, AxisOk h a → AxisOk h a.advance := fun a ok =>
    ok.step ok.inRange.advance (by rw [a.advance_frame]) fun p => by
      rw [a.advance_phase] at p
      exact ⟨p, by rw [a.advance_frame]; exact ok.short p⟩
  exact { r with az := ok _ r.az, el := ok _ r.el }

/-! ## Turns (R26 to R39) -/

theorem quarterDigits_lt (k x y acc : Nat) : quarterDigits k x y acc < 2 ^ k * (acc + 1) := by
  induction k generalizing x y acc with
  | zero => simp [quarterDigits]
  | succ k ih =>
    have key : ∀ x y d, d ≤ 1 → quarterDigits k x y (2 * acc + d) < 2 ^ (k + 1) * (acc + 1) := by
      intro x y d hd
      refine (ih x y _).trans_le ?_
      rw [pow_succ, Nat.mul_assoc]
      exact Nat.mul_le_mul_left _ (by omega)
    simp only [quarterDigits]
    split
    · exact key _ _ 0 (by omega)
    · exact key _ _ 1 (by omega)

theorem quarterHalfUnits_lt (x y : Nat) : quarterHalfUnits x y < 32768 := by
  simpa [quarterHalfUnits] using quarterDigits_lt 15 x y 0

/-- R28, R29: an elevation lies within a quarter turn. -/
theorem aimElevation_bounds (n : Vec3) : -16384 ≤ aimElevation n ∧ aimElevation n ≤ 16384 := by
  simp only [aimElevation, elevationOf]
  have q := quarterHalfUnits_lt (Vec3.horizontal n) n.u.toNat
  have q' := quarterHalfUnits_lt (Vec3.horizontal n) (-n.u).toNat
  split_ifs <;> omega

theorem aimAzimuth_le (n : Vec3) {last : Nat} (h : last ≤ 65535) : aimAzimuth n last ≤ 65535 := by
  simp only [aimAzimuth]
  split
  · exact h
  · exact Nat.le_of_lt_succ (Nat.mod_lt _ (by decide))

theorem leastBy_mem {cost : Int → Nat} {l : List Int} {x : Int} (h : leastBy cost l = some x) : x ∈ l := by
  induction l generalizing x with
  | nil => cases h
  | cons y rest ih =>
    simp only [leastBy] at h
    split at h
    · cases h; exact List.mem_cons_self
    · rename_i z hz
      split at h <;> cases h
      · exact List.mem_cons_self
      · exact List.mem_cons_of_mem _ (ih hz)

/-- R36, R37: an azimuth target lies within the limits, or is the current one. -/
theorem azimuthTarget_signed {prm : AxisParams} (r : prm.InRange) {current : Int} (c : Signed32 current) (azc : Int) :
    Signed32 (azimuthTarget prm current azc).1 := by
  simp only [azimuthTarget]
  split
  · rename_i x hx
    obtain ⟨-, w⟩ := List.mem_filter.1 (leastBy_mem hx)
    simp only [AxisParams.within, Bool.and_eq_true, decide_eq_true_eq] at w
    exact ⟨r.softMin.1.trans w.1, w.2.trans r.softMax.2⟩
  · split
    · split
      · exact r.softMin
      · exact r.softMax
    · exact c

/-- R39: a contribution estimate formed from an irradiance, an area, a cosine and a delivery within their ranges. -/
theorem estimateP_le {i a c d : Nat} (hi : i ≤ 1500) (ha : a ≤ 600) (hc : c ≤ 32767) (hd : d ≤ 255) :
    estimateP i a c d ≤ 65535 := by
  have m : i * a * c * d ≤ 1500 * 600 * 32767 * 255 := by gcongr
  exact (Nat.div_le_div_right m).trans (by norm_num)

theorem Helio.InRange.aimAlong {h : Helio} (r : h.InRange) (n : Vec3) : (h.aimAlong n).InRange := by
  simp only [Helio.aimAlong]
  split
  · exact { r with }
  · exact { r with
      lastAz := aimAzimuth_le n r.lastAz
      lastEl_ge := (aimElevation_bounds n).1
      lastEl_le := (aimElevation_bounds n).2
      az := AxisOk.writeTarget (h := h) r.az (azimuthTarget_signed r.az.inRange.prm r.az.inRange.target _)
      el := AxisOk.writeTarget (h := h) r.el (Axis.soft_signed r.el.inRange _) }

/-- R22: a turn keeps the ranges where the planning irradiance is within its own. -/
theorem Helio.InRange.turn {h : Helio} (r : h.InRange) (cfg : StationConfig) {irradiance : Nat} (i : irradiance ≤ 1500)
    (sun : Vec3) : (h.turn cfg irradiance sun).InRange := by
  have t : (h.targetPart cfg sun).InRange := by
    simp only [Helio.targetPart]
    split
    · exact r
    · exact r.aimAlong _
  simp only [Helio.turn]
  split
  · simp only [Helio.estimatePart]
    split
    · exact t
    · rename_i n _
      have c : incidenceCosine n ≤ 32767 := Nat.min_le_right _ _
      exact { t with c := c, p := estimateP_le i t.area c t.delivery }
  · exact r

end Sys2Proof.Machine
end

section
/-! What an event keeps of the heliostats and the station state, whatever the event (R5, R7, R191, R194). -/

namespace Sys2Proof.Machine

/-! ## One heliostat through an operation -/

/-- An operation on a heliostat of a station that has loaded or not: it keeps the ranges, begins no homing phase before a
load, and neither homes the heliostat nor assigns it an aim point. -/
structure Helio.Kept (loaded : Bool) (irradiance : Nat) (h h' : Helio) : Prop where
  ranges : irradiance ≤ 1500 → h.InRange → h'.InRange
  still : loaded = false → h.Still → h'.Still
  homed : h'.homed = true → h.homed = true
  assigned : ∀ ap, h'.assignment = some ap → h.assignment = some ap

namespace Helio.Kept

variable {l : Bool} {r : Nat} {h h' h'' : Helio}

protected theorem refl (h : Helio) : Helio.Kept l r h h := ⟨fun _ => id, fun _ => id, id, fun _ => id⟩

protected theorem trans (a : Helio.Kept l r h h') (b : Helio.Kept l r h' h'') : Helio.Kept l r h h'' :=
  ⟨fun i => b.ranges i ∘ a.ranges i, fun i => b.still i ∘ a.still i, a.homed ∘ b.homed,
    fun ap => a.assigned ap ∘ b.assigned ap⟩

end Helio.Kept

theorem Helio.leave_assignment {h : Helio} {ap : Nat} (e : h.leave.assignment = some ap) : h.assignment = some ap := by
  revert e
  simp only [Helio.leave]
  split <;> simp

theorem Helio.enter_still {h : Helio} (s : h.Still) (l : Level) : (h.enter l).Still := by
  obtain ⟨az, el⟩ := s
  simp only [Helio.enter]
  repeat' split
  all_goals simp [Helio.Still, Helio.writeTargets, az, el]

theorem Helio.reengage_still {h : Helio} (s : h.Still) (src : Sources) (l : Bool) : (h.reengage src l).Still := by
  rcases h.reengage_cases src l with ⟨-, e⟩ | ⟨-, e⟩ <;> rw [e]
  · exact s
  · exact Helio.enter_still (by simpa [Helio.Still] using s) _

theorem Helio.reengage_assignment {h : Helio} {src : Sources} {l : Bool} {ap : Nat}
    (e : (h.reengage src l).assignment = some ap) : h.assignment = some ap := by
  rcases h.reengage_cases src l with ⟨-, q⟩ | ⟨-, q⟩ <;> rw [q] at e
  · exact e
  · exact Helio.leave_assignment (by simpa using e)

/-- R68: recomputing the engaged level. -/
theorem Helio.Kept.reengage (l : Bool) (r : Nat) (h : Helio) (src : Sources) (b : Bool) :
    Helio.Kept l r h (h.reengage src b) where
  ranges _ i := i.reengage src b
  still _ s := Helio.reengage_still s src b
  homed := by simp
  assigned _ := Helio.reengage_assignment

theorem Helio.Kept.detect (l : Bool) (r : Nat) (h : Helio) (k : HelioFault) : Helio.Kept l r h (h.detect k) := by
  refine ⟨fun _ i => i.detect k, fun _ s => ?_, fun e => ?_, fun ap e => ?_⟩
  all_goals rcases h.detect_cases k with ⟨-, q⟩ | ⟨-, q⟩
  all_goals simp_all [Helio.Still]

theorem Helio.Kept.takeOut (l : Bool) (r : Nat) (h : Helio) : Helio.Kept l r h h.takeOut :=
  ⟨fun _ i => i.takeOut, fun _ _ => ⟨rfl, rfl⟩, by simp [Helio.takeOut], by simp [Helio.takeOut]⟩

theorem Helio.Kept.takeIn (l : Bool) (r : Nat) (h : Helio) : Helio.Kept l r h h.takeIn :=
  ⟨fun _ i => i.takeIn, fun _ => id, by simp [Helio.takeIn], fun _ => id⟩

/-- R54, R55: a homing start of a heliostat that is present and without a fault, after a load. -/
theorem Helio.Kept.homingStart (r : Nat) {h : Helio} (present : h.cfg.present = true) (f : h.fault = .none) :
    Helio.Kept true r h h.homingStart := by
  refine ⟨fun _ i => i.homingStart present f, by simp, fun e => ?_, fun ap e => ?_⟩
  all_goals simp only [Helio.homingStart, Helio.detect] at e
  all_goals split at e <;> simp_all

theorem Helio.Kept.rehome (r : Nat) {h : Helio} (present : h.cfg.present = true) : Helio.Kept true r h h.rehome :=
  .trans ⟨fun _ i => i.clearFault, by simp, id, fun _ => id⟩ (.homingStart r (h := { h with fault := .none }) present rfl)

theorem Helio.Kept.takeHold (l : Bool) (r : Nat) (h : Helio) (t : Steps) : Helio.Kept l r h (h.takeHold t) := by
  refine ⟨fun _ i => i.takeHold t, fun _ s => ?_, ?_, fun ap => ?_⟩ <;> simp only [Helio.takeHold] <;> split
  · simpa [Helio.Still, Helio.writeTargets] using s
  · exact s
  all_goals simp

theorem Helio.Kept.homefailTest (l : Bool) (r : Nat) (h : Helio) (a : AxisId) : Helio.Kept l r h (h.homefailTest a) := by
  simp only [Helio.homefailTest]
  split
  · exact .detect l r h _
  · exact .refl h

theorem Helio.setAxis_still {h : Helio} (s : h.Still) {a : AxisId} {x : Axis} (e : x.homingPhase = false) :
    (h.setAxis a x).Still := by
  cases a
  · exact ⟨e, s.2⟩
  · exact ⟨s.1, e⟩

theorem Helio.Still.axis {h : Helio} (s : h.Still) (a : AxisId) : (h.axis a).homingPhase = false := by
  cases a
  · exact s.1
  · exact s.2

/-- R44: a step of an axis. -/
theorem Helio.Kept.stepAxis (l : Bool) (r : Nat) (h : Helio) (a : AxisId) : Helio.Kept l r h (h.stepAxis a) := by
  have t := Helio.Kept.homefailTest l r (h.setAxis a (h.axis a).stepAndDecide) a
  refine ⟨fun _ i => i.stepAxis a, fun e s => ?_, fun e => ?_, fun ap e => ?_⟩
  · have d : (h.axis a).stepAndDecide.homingPhase = false := by
      rcases (({ h.axis a with counter := 0 } : Axis).countStep).stepDecision_phase with ⟨-, q⟩ | ⟨q, -⟩
      · exact q
      · exact absurd (q.symm.trans (s.axis a)) (by decide)
    have u := t.still e (Helio.setAxis_still s d)
    exact Helio.setAxis_still u (u.axis a)
  · simpa using t.homed (by simpa [Helio.stepAxis] using e)
  · simpa using t.assigned ap (by simpa [Helio.stepAxis] using e)

theorem Helio.Kept.resync (l : Bool) (r : Nat) (h : Helio) (a : AxisId) :
    Helio.Kept l r h (h.setAxis a (h.axis a).resync) := by
  refine ⟨fun _ i => i.resync a, fun _ s => Helio.setAxis_still s ?_, by simp, by simp⟩
  rw [Bool.eq_false_iff]
  intro p
  exact absurd ((Axis.resync_phase p).1.symm.trans (s.axis a)) (by decide)

theorem Helio.Kept.setIndex (l : Bool) (r : Nat) (h : Helio) (a : AxisId) (level : Bool) :
    Helio.Kept l r h (h.setIndex a level) :=
  ⟨fun _ i => i.setIndex a level, fun _ s => Helio.setAxis_still s (s.axis a), by simp [Helio.setIndex],
    by simp [Helio.setIndex]⟩

theorem Helio.aimAlong_keeps (h : Helio) (n : Vec3) :
    (h.aimAlong n).homed = h.homed ∧ (h.aimAlong n).assignment = h.assignment ∧ (h.Still → (h.aimAlong n).Still) := by
  simp only [Helio.aimAlong]
  split
  · exact ⟨rfl, rfl, id⟩
  · exact ⟨rfl, rfl, fun s => by simpa [Helio.Still] using s⟩

/-- R22: a turn. -/
theorem Helio.Kept.turn (l : Bool) (h : Helio) (cfg : StationConfig) (r : Nat) (sun : Vec3) :
    Helio.Kept l r h (h.turn cfg r sun) := by
  have t : (h.targetPart cfg sun).homed = h.homed ∧ (h.targetPart cfg sun).assignment = h.assignment ∧
      (h.Still → (h.targetPart cfg sun).Still) := by
    simp only [Helio.targetPart]
    split
    · exact ⟨rfl, rfl, id⟩
    · exact h.aimAlong_keeps _
  have u : (h.turn cfg r sun).homed = h.homed ∧ (h.turn cfg r sun).assignment = h.assignment ∧
      (h.Still → (h.turn cfg r sun).Still) := by
    simp only [Helio.turn, Helio.estimatePart]
    split
    · split
      · exact t
      · exact t
    · exact ⟨rfl, rfl, id⟩
  exact ⟨fun i k => k.turn cfg i sun, fun _ => u.2.2, fun e => u.1 ▸ e, fun ap e => u.2.1 ▸ e⟩

/-- R101, R162, R175: a deferred placement emptied. -/
theorem Helio.Kept.emptied (l : Bool) (r : Nat) (h : Helio) :
    Helio.Kept l r h { h with deferred := none, placementP := 0 } :=
  ⟨fun _ i => { i with placementP := Nat.zero_le _ }, fun _ => id, id, fun _ => id⟩

/-- R44: a microsecond of both generators. -/
theorem Helio.Kept.advance (l : Bool) (r : Nat) (h : Helio) :
    Helio.Kept l r h { h with az := h.az.advance, el := h.el.advance } :=
  ⟨fun _ i => i.advance, fun _ s => ⟨by rw [← s.1]; exact h.az.advance_phase, by rw [← s.2]; exact h.el.advance_phase⟩,
    id, fun _ => id⟩

theorem Helio.Kept.restart (l : Bool) (r : Nat) (h : Helio) : Helio.Kept l r h h.restart :=
  ⟨fun _ i => i.restart, fun _ _ => ⟨rfl, rfl⟩, id, by simp [Helio.restart]⟩

end Sys2Proof.Machine
end

section
/-! What each shared operation and each row keeps of the heliostats and the station state. -/

namespace Sys2Proof.Machine

/-- R191: the rows that reset the station, a RESTART in a COMMAND frame included. -/
def Instr.Resets (c : Instr) : Prop :=
  (∃ w, c = .powerOnReset ⟨true, w⟩) ∨ (∃ w, c = .resetn ⟨pinLow, w⟩) ∨ c = .restart 255 ∨
  (∃ slot es, c = .commandFrame slot es ∧ es.any restartsStation = true) ∨
  ∃ raw es, c = .frameDropped raw ∧ judge raw = .valid (.command es) ∧ es.any restartsStation = true

/-- What every row keeps of the heliostats and the station state, with the rows that are named for an exception. -/
structure State.Kept (c : Instr) (s t : State) : Prop where
  ranges : HelioRangesOk s → HelioRangesOk t
  por : t.sc.por = true → s.sc.por = true ∨ ∃ w, c = .powerOnReset ⟨true, w⟩
  silent : s.sc.state = .silent → t.sc.state = .silent ∨ Instr.Resets c
  loaded : s.sc.state.loaded = true → t.sc.state.loaded = true ∨ Instr.Resets c
  homed : ∀ i : Fin 8, t.helios[i].homed = true → s.helios[i].homed = true ∨ c = .indexEdge i .az pinHigh
  assigned : ∀ (i : Fin 8) (ap : Nat), t.helios[i].assignment = some ap →
    s.helios[i].assignment = some ap ∨ c = .transmitCompletion

/-- R3, R14: a heliostat field that names a present heliostat. -/
theorem State.presentIndex_some {s : State} {hf : Byte} {i : Fin 8} (h : s.presentIndex hf = some i) :
    hf.toNat = i.val ∧ s.helios[i].cfg.present = true := by
  simp only [State.presentIndex, helioIndex] at h
  split at h
  · cases h
  · rename_i j hj
    split at h <;> cases h
    split at hj <;> cases hj
    exact ⟨rfl, ‹_›⟩

theorem helioRangesOk_iff (s : State) :
    HelioRangesOk s ↔ DniOk s ∧ (∀ i : Fin 8, s.helios[i].InRange) ∧
      (s.sc.state.loaded = false → ∀ i : Fin 8, s.helios[i].Still) :=
  and_congr_right' (and_congr_left' (forall_congr' fun _ => helioOk_iff _))

theorem DniOk.h_le {s : State} (d : DniOk s) : s.irm.h ≤ 1500 := d.2.2.2.1

theorem State.rehomeOne_sc (s : State) (i : Fin 8) : (s.rehomeOne i).sc = s.sc := by
  simp only [State.rehomeOne]
  split <;> rfl

namespace State.Kept

variable {c : Instr} {s t u : State}

protected theorem refl (c : Instr) (s : State) : State.Kept c s s :=
  ⟨id, .inl, .inl, .inl, fun _ => .inl, fun _ _ => .inl⟩

protected theorem trans (a : State.Kept c s t) (b : State.Kept c t u) : State.Kept c s u where
  ranges := b.ranges ∘ a.ranges
  por e := (b.por e).elim a.por .inr
  silent e := (a.silent e).elim b.silent .inr
  loaded e := (a.loaded e).elim b.loaded .inr
  homed i e := (b.homed i e).elim (a.homed i) .inr
  assigned i ap e := (b.assigned i ap e).elim (a.assigned i ap) .inr

/-- An operation that keeps each heliostat, and of the station the irradiance ranges, POR, SILENT and being loaded. -/
theorem of_helios (dni : DniOk s → DniOk t) (por : t.sc.por = true → s.sc.por = true)
    (loaded : t.sc.state.loaded = s.sc.state.loaded) (silent : s.sc.state = .silent → t.sc.state = .silent)
    (hs : ∀ i : Fin 8, Helio.Kept s.sc.state.loaded s.irm.h s.helios[i] t.helios[i]) : State.Kept c s t where
  ranges := by
    simp only [helioRangesOk_iff]
    rintro ⟨d, r, q⟩
    exact ⟨dni d, fun i => (hs i).ranges d.h_le (r i), fun e i => (hs i).still (loaded ▸ e) (q (loaded ▸ e) i)⟩
  por := .inl ∘ por
  silent := .inl ∘ silent
  loaded e := .inl (loaded.trans e)
  homed i := .inl ∘ (hs i).homed
  assigned i ap := .inl ∘ (hs i).assigned ap

/-- An operation on the heliostats that leaves the irradiance, the parameters and the station state. -/
theorem of_bank (irm : t.irm = s.irm) (cfg : t.cfg = s.cfg) (sc : t.sc = s.sc)
    (hs : ∀ i : Fin 8, Helio.Kept s.sc.state.loaded s.irm.h s.helios[i] t.helios[i]) : State.Kept c s t :=
  of_helios (fun d => by simpa [DniOk, irm, cfg] using d) (by rw [sc]; exact id) (by rw [sc]) (by rw [sc]; exact id) hs

/-- An operation on other registers alone. -/
theorem of_same (irm : t.irm = s.irm) (cfg : t.cfg = s.cfg) (sc : t.sc = s.sc) (hs : t.helios = s.helios) :
    State.Kept c s t := of_bank irm cfg sc fun _ => hs ▸ .refl _

/-- The station controller replaced, POR not set by it and its state as it was. -/
theorem withSc (s : State) (sc : StationController) (por : sc.por = true → s.sc.por = true)
    (state : sc.state = s.sc.state) : State.Kept c s { s with sc := sc } :=
  of_helios id por (congrArg _ state) state.trans fun _ => .refl _

/-! ## Shared operations -/

theorem change {f : State → State} (k : State.Kept c s (f s)) : State.Kept c s (s.change f) := by
  rw [State.change_eq]
  exact k.trans (of_same rfl rfl rfl rfl)

theorem ifRunning {f : State → State} (k : s.running = true → State.Kept c s (f s)) :
    State.Kept c s (s.ifRunning f) := by
  simp only [State.ifRunning]
  split
  · exact k ‹_›
  · exact .refl c s

theorem updateHelio (i : Fin 8) {f : Helio → Helio}
    (k : Helio.Kept s.sc.state.loaded s.irm.h s.helios[i] (f s.helios[i])) : State.Kept c s (s.updateHelio i f) := by
  refine of_bank rfl rfl rfl fun j => ?_
  by_cases e : j = i
  · subst e
    rw [State.updateHelio_self]
    exact k.trans (.reengage ..)
  · rw [State.updateHelio_other _ _ _ _ e]
    exact .refl _

theorem reengageAll (s : State) : State.Kept c s s.reengageAll :=
  of_bank rfl rfl rfl fun i => by simpa using Helio.Kept.reengage ..

theorem setSources (s : State) (f : Sources → Sources) : State.Kept c s (s.setSources f) :=
  of_bank rfl rfl rfl fun i => by simpa using Helio.Kept.reengage ..

theorem count (s : State) (f : Counters → Counters) : State.Kept c s (s.count f) := of_same rfl rfl rfl rfl

theorem answer (s : State) (k hf : Byte) (r : Result) : State.Kept c s (s.answer k hf r) := of_same rfl rfl rfl rfl

theorem takeCommand {k hf : Byte} {f : State → Result × State} (h : State.Kept c s (f s).2) :
    State.Kept c s (s.takeCommand k hf f) :=
  (change (f := fun s => (f s).2) h).trans (answer ..)

theorem recomputeInterest (s : State) : State.Kept c s s.recomputeInterest := of_same rfl rfl rfl rfl

theorem discardFrame (s : State) : State.Kept c s s.discardFrame :=
  of_bank rfl rfl rfl fun i => by
    simp only [Fin.getElem_fin, State.discardFrame_helio]
    exact .emptied ..

theorem cutFrame (s : State) : State.Kept c s s.cutFrame := by
  rcases s.cutFrame_cases with ⟨-, e⟩ | ⟨-, e⟩ | ⟨-, e⟩ <;> rw [e]
  · exact .refl c s
  · exact discardFrame s
  · exact (discardFrame s).trans (of_same rfl rfl rfl rfl)

theorem follow_dni (d : DniOk s) (new : StationState) : DniOk { s with irm := s.irm.follow s.sc.state new } := by
  obtain ⟨t, p, m, h, f, e⟩ := d
  simp only [DniOk, IrradianceMonitor.follow]
  split_ifs
  · exact ⟨t, p, m, h, f, e⟩
  · exact ⟨Nat.zero_le _, Nat.zero_le _, m, h, f, e⟩
  · exact ⟨Nat.zero_le _, Nat.zero_le _, m, h, f, e⟩
  · exact ⟨t, p, m, h, f, e⟩

/-- A change to a state that has loaded, of a station that has; SILENT is not left for another state. -/
theorem toState {new : StationState} (loaded : s.sc.state.loaded = true) (new_loaded : new.loaded = true)
    (silent : s.sc.state = .silent → new = .silent) : State.Kept c s (s.toState new) := by
  have k : State.Kept c s { s with sc := { s.sc with state := new }, irm := s.irm.follow s.sc.state new } :=
    of_helios (fun d => follow_dni d new) id (new_loaded.trans loaded.symm) silent fun _ => .refl _
  simp only [State.toState]
  split
  · exact k
  · exact k.trans (cutFrame _)

theorem becomeSilent (loaded : s.sc.state.loaded = true) : State.Kept c s s.becomeSilent := by
  simp only [State.becomeSilent]
  refine (toState (new := .silent) loaded rfl fun _ => rfl).trans ?_
  generalize s.toState .silent = t
  exact (withSc t { t.sc with isoCount := 0 } id rfl).trans (setSources ..)

theorem becomeIsolated (loaded : s.sc.state.loaded = true) (n : s.sc.state ≠ .silent) :
    State.Kept c s s.becomeIsolated := by
  simp only [State.becomeIsolated]
  refine (toState (new := .isolated) loaded rfl fun e => absurd e n).trans ?_
  generalize s.toState .isolated = t
  exact (withSc t { t.sc with isoCount := 0 } id rfl).trans (setSources ..)

theorem becomeNight (loaded : s.sc.state.loaded = true) (n : s.sc.state ≠ .silent) : State.Kept c s s.becomeNight := by
  simp only [State.becomeNight]
  exact (toState loaded rfl fun e => absurd e n).trans (setSources ..)

theorem leaveIsolated (loaded : s.sc.state.loaded = true) (n : s.sc.state ≠ .silent) :
    State.Kept c s s.leaveIsolated := by
  simp only [State.leaveIsolated]
  refine (toState loaded ?_ fun e => absurd e n).trans (setSources ..)
  split <;> rfl

/-! ## Command entries -/

theorem stationWide {f : State → Result × State} (hf : Byte) (k : State.Kept c s (f s).2) :
    State.Kept c s (stationWide hf f s).2 := by
  simp only [Machine.stationWide]
  split
  · exact k
  · exact .refl c s

theorem stowField (s : State) : State.Kept c s (stowFieldEffect s).2 := by
  simp only [stowFieldEffect]
  exact setSources ..

theorem standbySet (s : State) : State.Kept c s (standbySetEffect s).2 := by
  simp only [standbySetEffect]
  exact setSources ..

theorem stowRelease (s : State) : State.Kept c s (stowReleaseEffect s).2 := by
  simp only [stowReleaseEffect]
  split_ifs <;> dsimp only
  · exact setSources s _
  · exact .refl c s
  · exact setSources s _
  · exact .refl c s

theorem standbyClear (s : State) : State.Kept c s (standbyClearEffect s).2 := by
  simp only [standbyClearEffect]
  split <;> dsimp only
  · exact setSources ..
  · exact .refl c s

theorem hold (hf : Byte) (t : Steps) (s : State) : State.Kept c s (holdEffect hf t s).2 := by
  simp only [holdEffect]
  split
  · exact .refl c s
  · split <;> dsimp only
    · exact .refl c s
    · exact updateHelio _ (.takeHold ..)

theorem holdRelease (hf : Byte) (s : State) : State.Kept c s (holdReleaseEffect hf s).2 := by
  simp only [holdReleaseEffect]
  split
  · exact .refl c s
  · split <;> dsimp only
    · exact .refl c s
    · exact updateHelio _ ⟨fun _ r => { r with hold := by simp [StepsOk] }, fun _ => id, id, fun _ => id⟩

theorem serviceOut (hf : Byte) (s : State) : State.Kept c s (serviceOutEffect hf s).2 := by
  simp only [serviceOutEffect]
  split
  · exact .refl c s
  · split
    · exact (updateHelio _ (.takeOut ..)).trans (recomputeInterest _)
    · exact .refl c s

theorem serviceIn (loaded : s.sc.state.loaded = true) (hf : Byte) : State.Kept c s (serviceInEffect hf s).2 := by
  simp only [serviceInEffect]
  split
  · exact .refl c s
  · rename_i i hi
    have present := (State.presentIndex_some hi).2
    split_ifs
    · exact .refl c s
    · exact .refl c s
    · refine (change (f := fun s => s.updateHelio i Helio.takeIn) (updateHelio i (.takeIn ..))).trans
        ((change (updateHelio i ?_)).trans (recomputeInterest _))
      simp only [State.change_helios, State.change_sc, State.updateHelio_sc, loaded, State.updateHelio_self]
      exact .homingStart _ (by simpa [Helio.takeIn] using present) (by simp [Helio.takeIn])

theorem correct (hf : Byte) (x y : Int) (s : State) : State.Kept c s (correctEffect hf x y s).2 := by
  simp only [correctEffect]
  split
  · exact .refl c s
  · rename_i i _
    split
    · refine of_bank rfl rfl rfl fun j => ?_
      by_cases e : j = i
      · subst e
        rw [set_helio_self]
        exact ⟨fun _ r => { r with }, fun _ => id, id, fun _ => id⟩
      · rw [set_helio_other _ _ _ _ e]
        exact .refl _
    · exact .refl c s

theorem rehomeOne (loaded : s.sc.state.loaded = true) (i : Fin 8) : State.Kept c s (s.rehomeOne i) := by
  simp only [State.rehomeOne]
  split
  · rename_i h
    simp only [Bool.and_eq_true] at h
    exact updateHelio i (loaded ▸ .rehome _ h.1)
  · exact .refl c s

theorem rehomeAll (loaded : s.sc.state.loaded = true) : State.Kept c s s.rehomeAll := by
  have key : ∀ (l : List (Fin 8)) (t : State), t.sc.state.loaded = true → State.Kept c t (l.foldl State.rehomeOne t) := by
    intro l
    induction l with
    | nil => exact fun t _ => .refl c t
    | cons i rest ih => exact fun t h => (rehomeOne h i).trans (ih _ (by rw [State.rehomeOne_sc]; exact h))
  exact key _ s loaded

theorem rehome (loaded : s.sc.state.loaded = true) (hf : Byte) : State.Kept c s (rehomeEffect hf s).2 := by
  simp only [rehomeEffect]
  split
  · dsimp only
    exact rehomeAll loaded
  · split
    · exact .refl c s
    · rename_i i hi
      split <;> dsimp only
      · exact .refl c s
      · exact updateHelio i (loaded ▸ .rehome _ (State.presentIndex_some hi).2)

theorem activateCode (s : State) : State.Kept c s s.activateCode := by
  simp only [State.activateCode]
  split
  · exact .refl c s
  · exact .trans (t := { s with dcu := { s.dcu with active := true } }) (of_same rfl rfl rfl rfl) (setSources ..)

theorem releaseCode (s : State) : State.Kept c s s.releaseCode := by
  simp only [State.releaseCode]
  split
  · exact .trans (t := { s with dcu := { s.dcu with active := false } }) (of_same rfl rfl rfl rfl) (setSources ..)
  · exact .refl c s

theorem defocusRelease (s : State) : State.Kept c s (defocusReleaseEffect s).2 := by
  simp only [defocusReleaseEffect]
  split_ifs
  · exact .refl c s
  · exact releaseCode s
  · exact .refl c s

theorem clearAlerts (s : State) : State.Kept c s (clearAlertsEffect s).2 := of_same rfl rfl rfl rfl

theorem clearSticky (s : State) : State.Kept c s (clearStickyEffect s).2 :=
  of_helios id (by simp [clearStickyEffect]) rfl id fun i => by
    simp only [clearStickyEffect, Fin.getElem_fin, getElem_mapEach]
    exact ⟨fun _ r => { r with }, fun _ => id, id, fun _ => id⟩

theorem report (hf : Byte) (s : State) : State.Kept c s (reportEffect hf s).2 := by
  simp only [reportEffect]
  repeat' split
  · exact of_same rfl rfl rfl rfl
  · exact .refl c s
  · exact of_same rfl rfl rfl rfl

/-- R18, R193: a RESTART resets the station. -/
theorem softReset (r : Instr.Resets c) (s : State) : State.Kept c s s.softReset where
  ranges := by
    simp only [helioRangesOk_iff]
    rintro ⟨⟨-, -, -, -, f, d⟩, r, -⟩
    have z : ∀ n, 0 ≤ n := Nat.zero_le
    refine ⟨⟨z _, z _, z _, z _, f, d⟩, fun i => ?_, fun _ i => ?_⟩
    all_goals simp only [State.softReset, State.sampleStraps, Fin.getElem_fin, getElem_mapEach]
    · exact (r i).restart
    · exact ⟨rfl, rfl⟩
  por := .inl
  silent _ := .inr r
  loaded _ := .inr r
  homed i e := .inl (by simpa [State.softReset, State.sampleStraps, Helio.restart] using e)
  assigned i ap e := by simp [State.softReset, State.sampleStraps, Helio.restart] at e

end State.Kept
end Sys2Proof.Machine
end

section
/-! What the rows of the frames, the transmitter, the epoch and the tick keep. -/

namespace Sys2Proof.Machine

/-! ## Entries of a COMMAND frame (R102) -/

/-- R170: the place pass defers a candidate of one heliostat, or leaves the heliostats as they are. -/
theorem placeOne_helios (cfg : StationConfig) (ps : PassState) (i : Fin 8) :
    (placeOne cfg ps i).helios = ps.helios ∨
      ∃ ap, ps.helios[i].cfg.candidates.find? (placeable cfg ps.budgets ps.helios[i].p) = some ap ∧
        (placeOne cfg ps i).helios = ps.helios.set i
          { ps.helios[i] with deferred := some ap, placementP := ps.helios[i].p } := by
  by_cases a : ps.helios[i].assignment.isSome = true
  · exact .inl (by simp only [placeOne, if_pos a])
  · cases f : ps.helios[i].cfg.candidates.find? (placeable cfg ps.budgets ps.helios[i].p) with
    | none => exact .inl (by simp only [placeOne, if_neg a, f])
    | some ap => exact .inr ⟨ap, rfl, by simp only [placeOne, if_neg a, f]⟩

namespace State.Kept

variable {c : Instr} {s t u : State}

/-- R193: a RESTART with 0xFF resets the station. -/
theorem restart {hf : Byte} (r : hf = allHeliostats → Instr.Resets c) (s : State) : State.Kept c s (s.restart hf) := by
  simp only [State.restart]
  split
  · exact (answer ..).trans (softReset (r ‹_›) _)
  · exact answer ..

/-- R102: a taken entry, whatever its kind. -/
theorem takeEntry (loaded : s.sc.state.loaded = true) (e : CommandEntry)
    (r : restartsStation e = true → Instr.Resets c) : State.Kept c s (s.takeEntry e) := by
  simp only [State.takeEntry, State.stowField, State.stowRelease, State.standbySet, State.standbyClear, State.hold,
    State.holdRelease, State.serviceOut, State.serviceIn, State.correct, State.rehome, State.defocusRelease,
    State.clearAlerts, State.clearSticky, State.report]
  split
  · exact takeCommand (stationWide _ (stowField _))
  · exact takeCommand (stationWide _ (stowRelease _))
  · exact takeCommand (stationWide _ (standbySet _))
  · exact takeCommand (stationWide _ (standbyClear _))
  · exact takeCommand (hold ..)
  · exact takeCommand (holdRelease ..)
  · exact takeCommand (serviceOut ..)
  · exact takeCommand (serviceIn loaded _)
  · exact takeCommand (correct ..)
  · exact takeCommand (rehome loaded _)
  · exact takeCommand (stationWide _ (defocusRelease _))
  · exact takeCommand (stationWide _ (clearAlerts _))
  · exact takeCommand (stationWide _ (clearSticky _))
  · exact takeCommand (report ..)
  · rename_i k
    refine restart (fun a => r ?_) s
    have k : e.kind = 15 := BitVec.eq_of_toNat_eq k
    simp [restartsStation, k, a]
  · exact answer ..

/-- R102, R193: the entries of a frame, of which a RESTART that is taken is the last. -/
theorem takeEntries (loaded : s.sc.state.loaded = true) (es : List CommandEntry)
    (r : es.any restartsStation = true → Instr.Resets c) : State.Kept c s (s.takeEntries es) := by
  induction es generalizing s with
  | nil => exact .refl c s
  | cons e rest ih =>
    simp only [List.any_cons, Bool.or_eq_true] at r
    simp only [State.takeEntries]
    split_ifs with a q
    · exact takeEntry loaded e fun x => r (.inl x)
    · have still_loaded : (s.takeEntry e).sc.state.loaded = true :=
        ((takeEntry (c := .busLost) loaded e fun x => absurd x q).loaded loaded).resolve_right (by simp [Instr.Resets])
      exact (takeEntry loaded e fun x => r (.inl x)).trans (ih still_loaded fun x => r (.inr x))
    · exact ih loaded fun x => r (.inr x)

/-! ## Frames (R90 to R94) -/

theorem takeReceiver (st : Byte) (zones : List ZoneReading) (s : State) :
    State.Kept c s (s.takeReceiver st zones) := by
  simp only [State.takeReceiver]
  split
  · exact .refl c s
  · rename_i x _
    generalize (some { state := x, zones := _, epoch := _ } : Option RxRecord) = rec
    exact .trans (t := { s with rs := { s.rs with receiver := rec } }) (of_same rfl rfl rfl rfl) (setSources ..)

theorem lookUpPeer (station : Nat) (items : List PlanItem) (s : State) : State.Kept c s (s.lookUpPeer station items) := by
  rcases s.lookUpPeer_cases station items with ⟨w, -, -, e⟩ | ⟨w, -, -, e⟩ | ⟨-, -, e⟩ | ⟨-, -, e⟩ <;> rw [e]
  · exact of_same rfl rfl rfl rfl
  · exact of_same rfl rfl rfl rfl
  · exact .refl c s
  · rw [State.evict_frame]
    exact of_same rfl rfl rfl rfl

theorem hearOwnNumber (s : State) : State.Kept c s s.hearOwnNumber := by
  have k : State.Kept c s { s with bi := { s.bi with heardOwnSlot := true } } := of_same rfl rfl rfl rfl
  simp only [State.hearOwnNumber]
  split
  · rename_i h
    refine k.trans (becomeSilent ?_)
    revert h
    cases e : s.sc.state <;> simp [StationState.sends, StationState.loaded, State.listensFromNow, e]
  · exact k

/-- R92: a frame that is taken, whatever its kind. -/
theorem takeFrame (loaded : s.sc.state.loaded = true) (slot : Nat) (body : FrameBody)
    (r : ∀ es, body = .command es → es.any restartsStation = true → Instr.Resets c) :
    State.Kept c s (s.takeFrame slot body) := by
  have heard : State.Kept c s (s.change State.hear) := change (of_same rfl rfl rfl rfl)
  cases body <;> simp only [State.takeFrame]
  case sun => exact heard.trans (of_same rfl rfl rfl rfl)
  case receiver => exact heard.trans (change (takeReceiver ..))
  case command es => exact heard.trans (takeEntries (by rw [State.change_sc]; exact loaded) es (r es rfl))
  case contribution =>
    split
    · exact heard.trans (change (hearOwnNumber _))
    · exact heard.trans (change (lookUpPeer ..))

theorem receiveBody (slot : Nat) (body : FrameBody)
    (r : ∀ es, body = .command es → es.any restartsStation = true → Instr.Resets c) (s : State) :
    State.Kept c s (s.receiveBody slot body) := by
  simp only [State.receiveBody]
  split
  · rename_i a
    split
    · exact count ..
    · exact takeFrame ((State.running_iff s).1 (State.running_of_accepts a)).2 slot body r
  · exact .refl c s

theorem receiveRaw (raw : RawFrame)
    (r : ∀ es, judge raw = .valid (.command es) → es.any restartsStation = true → Instr.Resets c) (s : State) :
    State.Kept c s (s.receiveRaw raw) := by
  simp only [State.receiveRaw]
  split
  · rename_i a
    have loaded : s.sc.state.loaded = true := by
      simp only [State.accepts, Bool.and_eq_true] at a
      exact ((State.running_iff s).1 a.1.1.1).2
    split
    · exact count ..
    · rename_i body h
      exact takeFrame loaded raw.slot body fun es e => r es (e ▸ h)
  · exact .refl c s

/-! ## The own frame (R95 to R97, R162 to R170) -/

theorem keepOne_kept {l : Bool} {r : Nat} {v : Vector Helio 8} (cfg : StationConfig) (ps : PassState) (i : Fin 8)
    (h : ∀ j : Fin 8, Helio.Kept l r v[j] ps.helios[j]) (j : Fin 8) :
    Helio.Kept l r v[j] (keepOne cfg ps i).helios[j] := by
  refine (h j).trans ?_
  by_cases e : j = i
  · subst e
    rcases keepOne_cases cfg ps j with ⟨b, -, q⟩ | ⟨-, q⟩ <;> rw [q, set_helio_self]
    · exact ⟨fun _ r => { r with countedP := r.p }, fun _ => id, id, fun _ => id⟩
    · exact ⟨fun _ r => { r with }, fun _ => id, id, by simp⟩
  · rcases keepOne_cases cfg ps i with ⟨b, -, q⟩ | ⟨-, q⟩ <;> rw [q, set_helio_other _ _ _ _ e]
    all_goals exact .refl _

theorem placeOne_kept {l : Bool} {r : Nat} {v : Vector Helio 8} (cfg : StationConfig) (ps : PassState) (i : Fin 8)
    (h : ∀ j : Fin 8, Helio.Kept l r v[j] ps.helios[j]) (j : Fin 8) :
    Helio.Kept l r v[j] (placeOne cfg ps i).helios[j] := by
  refine (h j).trans ?_
  rcases placeOne_helios cfg ps i with q | ⟨ap, -, q⟩ <;> simp only [q]
  · exact .refl _
  · by_cases e : j = i
    · subst e
      rw [set_helio_self]
      exact ⟨fun _ r => { r with placementP := r.p }, fun _ => id, id, fun _ => id⟩
    · rw [set_helio_other _ _ _ _ e]
      exact .refl _

/-- R168 to R170: the two passes assign nothing that was not assigned. -/
theorem passes (l : Bool) (r : Nat) (s : State) (j : Fin 8) : Helio.Kept l r s.helios[j] s.passes.helios[j] := by
  have ready : ∀ j : Fin 8, Helio.Kept l r s.helios[j] (readyForPasses s.helios)[j] := by
    intro j
    simp only [readyForPasses, Fin.getElem_fin, getElem_mapEach]
    refine (Helio.Kept.emptied ..).trans ⟨fun _ r => { r with }, fun _ => id, id, fun ap e => ?_⟩
    dsimp only at e ⊢
    split at e
    · exact e
    · cases e
  have kept := List.foldlRecOn (motive := fun ps : PassState => ∀ j : Fin 8, Helio.Kept l r s.helios[j] ps.helios[j])
    (rankedEligible s.helios) (keepOne s.cfg)
    (b := { helios := readyForPasses s.helios, budgets := s.startBudgets, wanted := [] }) ready
    fun ps h i _ => keepOne_kept s.cfg ps i h
  exact List.foldlRecOn (motive := fun ps : PassState => ∀ j : Fin 8, Helio.Kept l r s.helios[j] ps.helios[j])
    (rankedEligible s.helios) (placeOne s.cfg) kept (fun ps h i _ => placeOne_kept s.cfg ps i h) j

theorem supplyPlan (s : State) : State.Kept c s s.supplyPlan := by
  simp only [State.supplyPlan]
  split
  · exact of_bank rfl rfl rfl (passes _ _ s)
  all_goals exact of_same rfl rfl rfl rfl

theorem buildFrame (s : State) : State.Kept c s s.buildFrame :=
  (change (supplyPlan s)).trans (of_same rfl rfl rfl rfl)

theorem frameStart (s : State) : State.Kept c s s.frameStart := by
  simp only [State.frameStart]
  split_ifs
  · exact of_same rfl rfl rfl rfl
  · exact cutFrame s
  · exact .refl c s

theorem echoAbort (s : State) : State.Kept c s s.echoAbort := (cutFrame s).trans (of_same rfl rfl rfl rfl)

/-- R174: transmit completion alone assigns. -/
theorem completeFrame (s : State) : State.Kept .transmitCompletion s s.completeFrame where
  ranges := by
    simp only [helioRangesOk_iff, Fin.getElem_fin, State.completeFrame_helio]
    rintro ⟨d, r, q⟩
    refine ⟨d, fun i => ?_, fun e i => ?_⟩
    all_goals rcases s.helios[i.val].applyPlacement_cases with ⟨-, w⟩ | ⟨ap, -, w⟩ <;> rw [w]
    · exact r i
    · exact { r i with countedP := (r i).placementP, placementP := Nat.zero_le _ }
    · exact q e i
    · exact q e i
  por := .inl
  silent := .inl
  loaded := .inl
  homed i e := by
    rw [Fin.getElem_fin, State.completeFrame_helio] at e
    rcases s.helios[i.val].applyPlacement_cases with ⟨-, w⟩ | ⟨ap, -, w⟩ <;> rw [w] at e
    all_goals exact .inl e
  assigned _ _ _ := .inr rfl

end State.Kept
end Sys2Proof.Machine
end

section
/-! What the rows of the tick, the epoch, the pins and the resets keep. -/

namespace Sys2Proof.Machine

theorem State.rehomeAll_sc (s : State) : s.rehomeAll.sc = s.sc :=
  List.foldlRecOn (motive := fun t : State => t.sc = s.sc) _ _ rfl fun t h i _ => (State.rehomeOne_sc t i).trans h

theorem State.dawnRehome_sc (s : State) : s.dawnRehome.sc = s.sc := by
  simp only [State.dawnRehome]
  split
  · exact s.rehomeAll_sc
  · rfl

namespace State.Kept

variable {c : Instr} {s t u : State}

theorem of_running (r : s.running = true) : s.sc.state.loaded = true := ((State.running_iff s).1 r).2

/-! ## Turns and aim ticks (R19 to R22, R116, R118) -/

theorem takeTurns (sun : Vec3) (l : List (Fin 8)) (s : State) : State.Kept c s (s.takeTurns sun l) := by
  induction l generalizing s with
  | nil => exact .refl c s
  | cons i rest ih =>
    exact (change (f := fun s => s.takeTurn sun i) (updateHelio i (.turn ..))).trans (ih _)

theorem continueTick (p : TickProgress) (stop : Nat) (s : State) : State.Kept c s (s.continueTick p stop) := by
  simp only [State.continueTick]
  exact (takeTurns ..).trans (of_same rfl rfl rfl rfl)

theorem finishTick (s : State) : State.Kept c s s.finishTick := by
  simp only [State.finishTick]
  split
  · exact continueTick ..
  · exact .refl c s

theorem updateSunSource (lost : Bool) (s : State) : State.Kept c s (s.updateSunSource lost) := by
  simp only [State.updateSunSource]
  split
  · exact .refl c s
  · exact setSources ..

theorem dawnRehome (loaded : s.sc.state.loaded = true) : State.Kept c s s.dawnRehome := by
  simp only [State.dawnRehome]
  split
  · exact rehomeAll loaded
  · exact .refl c s

/-- R118, R190: the dawn takes the station from NIGHT to OPERATING. -/
theorem dawn (night : s.sc.state = .night) : State.Kept c s s.dawn := by
  have k : State.Kept c s { s with rs := { s.rs with nightCount := 0 } } := of_same rfl rfl rfl rfl
  simp only [State.dawn]
  have n : ({ s with rs := { s.rs with nightCount := 0 } } : State).sc.state = .night := night
  generalize ({ s with rs := { s.rs with nightCount := 0 } } : State) = t at k n
  refine k.trans ((change (f := State.dawnRehome) (dawnRehome (by rw [n]; rfl))).trans
    ((change (f := fun s => s.setSources _) (setSources ..)).trans (change (f := fun s => s.toState _) (toState ?_ rfl ?_))))
  all_goals simp [State.dawnRehome_sc, n, StationState.loaded]

theorem beginTurns (sun : Vec3) (stop : Nat) (s : State) : State.Kept c s (s.beginTurns sun stop) := by
  simp only [State.beginTurns]
  split
  · exact continueTick ..
  · exact .refl c s

theorem evaluateTick (sun : Option Vec3) (stop : Nat) (s : State) : State.Kept c s (s.evaluateTick sun stop) := by
  have k : State.Kept c s (s.change fun s => s.updateSunSource sun.isNone) := change (updateSunSource ..)
  simp only [State.evaluateTick]
  generalize (s.change fun s => s.updateSunSource sun.isNone) = t at k
  split
  · exact k
  · split
    · rename_i d
      simp only [State.dawnMet, Bool.and_eq_true, beq_iff_eq] at d
      exact k.trans ((dawn d.1).trans (beginTurns ..))
    · exact k.trans (beginTurns ..)

theorem startTick (offset stop : Nat) (s : State) : State.Kept c s (s.startTick offset stop) := by
  simp only [State.startTick]
  split
  · exact .trans (t := s.tickTaken offset) (of_same rfl rfl rfl rfl) (evaluateTick ..)
  · exact .refl c s

theorem aimTick (offset stop : Nat) (s : State) : State.Kept c s (s.aimTick offset stop) := by
  simp only [State.aimTick]
  split
  · exact continueTick ..
  · split
    · exact startTick ..
    · exact .refl c s

/-! ## The tests of the Station Controller (R185 to R191) -/

theorem storeIsoCount (s : State) : State.Kept c s s.storeIsoCount := withSc s _ id rfl

theorem silentDecided_loaded (h : s.silentDecided = true) : s.sc.state.loaded = true := by
  revert h
  cases e : s.sc.state <;> simp [State.silentDecided, StationState.loaded, e]

theorem isolatedDecided_state (h : s.isolatedDecided = true) :
    s.sc.state.loaded = true ∧ s.sc.state ≠ .silent := by
  revert h
  cases e : s.sc.state <;> simp [State.isolatedDecided, StationState.loaded, e]

theorem nightDecided_state (h : s.nightDecided = true) : s.sc.state = .operating := by
  simp only [State.nightDecided, Bool.and_eq_true, beq_iff_eq] at h
  exact h.1.1.1

theorem enterNight (h : s.nightDecided = true) : State.Kept c s s.storeIsoCount.becomeNight := by
  have e := nightDecided_state h
  exact (storeIsoCount s).trans (becomeNight (by simp [State.storeIsoCount, e, StationState.loaded])
    (by simp [State.storeIsoCount, e]))

theorem otherwiseDecided (s : State) : State.Kept c s s.otherwiseDecided := by
  simp only [State.otherwiseDecided]
  split
  · rename_i e
    split
    · exact (withSc s { s.sc with listen := false } id rfl).trans
        (toState (by simp [e, StationState.loaded]) rfl (by simp [e]))
    · exact withSc s _ id rfl
  · exact storeIsoCount s
  · exact storeIsoCount s
  · rename_i e
    split
    · exact leaveIsolated (by simp [e, StationState.loaded]) (by simp [e])
    · exact .refl c s
  all_goals exact .refl c s

theorem stationTests (s : State) : State.Kept c s s.stationTests := by
  simp only [State.stationTests]
  split_ifs with a b d
  · exact becomeSilent (silentDecided_loaded a)
  · exact becomeIsolated (isolatedDecided_state b).1 (isolatedDecided_state b).2
  · exact enterNight d
  · exact otherwiseDecided s

/-! ## Slots and epochs (R87 to R100) -/

theorem busLostTest (s : State) : State.Kept c s s.busLostTest := by
  simp only [State.busLostTest]
  split
  · exact of_same rfl rfl rfl rfl
  · exact .refl c s

theorem countSlot (s : State) : State.Kept c s s.countSlot :=
  .trans (t := { s with bi := { s.bi with quietSlots := min (s.bi.quietSlots + 1) 400 } }) (of_same rfl rfl rfl rfl)
    (busLostTest _)

theorem settleOwnSlot (s : State) : State.Kept c s s.settleOwnSlot := by
  simp only [State.settleOwnSlot]
  split
  · exact of_same rfl rfl rfl rfl
  · exact .refl c s

theorem startSlot (slot : Nat) (s : State) : State.Kept c s (s.startSlot slot) := by
  have k : State.Kept c s ({ s with bi := s.bi.enterSlot slot } : State).settleOwnSlot := by
    refine .trans ?_ (settleOwnSlot _)
    exact of_same rfl rfl rfl rfl
  simp only [State.startSlot]
  generalize ({ s with bi := s.bi.enterSlot slot } : State).settleOwnSlot = t at k
  have l : State.Kept c t (t.change State.countSlot) := change (countSlot t)
  generalize t.change State.countSlot = u at l
  split_ifs
  · exact k.trans (l.trans (of_same rfl rfl rfl rfl))
  · exact k.trans l
  · exact k

theorem rxStaleTest (s : State) : State.Kept c s s.rxStaleTest := by
  simp only [State.rxStaleTest]
  split
  · exact .trans (t := { s with rs := { s.rs with receiver := none } }) (of_same rfl rfl rfl rfl) (setSources ..)
  · exact .refl c s

theorem handEpoch (s : State) : State.Kept c s s.handEpoch := by
  have a : State.Kept c s (s.change State.countSlot) := change (countSlot s)
  simp only [State.handEpoch]
  generalize s.change State.countSlot = t at a
  refine a.trans (.trans (t := ({ t with bi := t.bi.settleRun } : State).expireSuns) (of_same rfl rfl rfl rfl) ?_)
  generalize ({ t with bi := t.bi.settleRun } : State).expireSuns = u
  exact (change (rxStaleTest u)).trans (of_same rfl rfl rfl rfl)

theorem epochStartTick (first : Bool) (s : State) : State.Kept c s (s.epochStartTick first) := by
  have k : State.Kept c s s.leaveTickDue := of_same rfl rfl rfl rfl
  simp only [State.epochStartTick]
  split
  · exact k.trans (startTick ..)
  · exact k

theorem testEpoch (s : State) : State.Kept c s s.testEpoch :=
  (change (stationTests s)).trans (of_same rfl rfl rfl rfl)

theorem makeEpochStart (first : Bool) (s : State) : State.Kept c s (s.makeEpochStart first) := by
  have k : State.Kept c s s.scheduleTicks := of_same rfl rfl rfl rfl
  simp only [State.makeEpochStart]
  split
  · exact k.trans ((finishTick _).trans ((handEpoch _).trans ((epochStartTick ..).trans (testEpoch _))))
  · exact k

theorem wrap (first : Bool) (s : State) : State.Kept c s (s.wrap first) := by
  simp only [State.wrap]
  refine (settleOwnSlot s).trans ?_
  generalize s.settleOwnSlot = t
  exact .trans (t := { t with bi := { t.bi.newEpoch with markWindow := true } }) (of_same rfl rfl rfl rfl)
    (makeEpochStart ..)

theorem markEpoch (first : Bool) (s : State) : State.Kept c s (s.markEpoch first) := by
  simp only [State.markEpoch]
  refine (cutFrame s).trans ((settleOwnSlot _).trans ?_)
  generalize s.cutFrame.settleOwnSlot = t
  exact .trans (t := { t with bi := { t.bi.newEpoch with timerInstant := t.bi.timerInstant.cutDue } })
    (of_same rfl rfl rfl rfl) ((count ..).trans (makeEpochStart ..))

theorem timeMark (first : Bool) (s : State) : State.Kept c s (s.timeMark first) := by
  have k : State.Kept c s (s.change fun s => { s with bi := s.bi.marked }) := change (of_same rfl rfl rfl rfl)
  simp only [State.timeMark]
  generalize (s.change fun s => { s with bi := s.bi.marked }) = t at k
  split
  · exact k.trans (of_same rfl rfl rfl rfl)
  · exact k.trans (markEpoch ..)

theorem markLostTest (s : State) : State.Kept c s s.markLostTest := by
  simp only [State.markLostTest]
  split
  · exact of_same rfl rfl rfl rfl
  · exact .refl c s

theorem closeWindow (s : State) : State.Kept c s s.closeWindow := by
  simp only [State.closeWindow]
  split
  · exact .trans (t := { s with bi := { s.bi with markWindow := false, missedMarks := min (s.bi.missedMarks + 1) 4 } })
      (of_same rfl rfl rfl rfl) (change (markLostTest _))
  · exact .refl c s

theorem unlessReset {f : State → State} (k : State.Kept c s (f s)) : State.Kept c s (s.unlessReset f) := by
  simp only [State.unlessReset]
  split
  · exact .refl c s
  · exact k

theorem unlessCut {f : State → State} (k : State.Kept c s (f s)) : State.Kept c s (s.unlessCut f) := by
  simp only [State.unlessCut]
  split
  · exact .refl c s
  · exact unlessReset k

/-! ## The defocus code (R127 to R136) -/

theorem receiveBit (first bit : Bool) (s : State) : State.Kept c s (s.receiveBit first bit) := by
  have act : ∀ t : State, State.Kept c t (if s.activateDetected bit then t.change State.activateCode else t) := by
    intro t
    split
    · exact change (activateCode t)
    · exact .refl c t
  have rel : ∀ t : State, State.Kept c t (if s.releaseDetected bit then t.change State.releaseCode else t) := by
    intro t
    split
    · exact change (releaseCode t)
    · exact .refl c t
  have fed : State.Kept c s (s.feedBit bit) := of_same rfl rfl rfl rfl
  simp only [State.receiveBit]
  split
  · split
    · exact fed.trans ((act _).trans (rel _))
    · exact fed.trans ((rel _).trans (act _))
  · exact .refl c s

theorem startGeneration (s : State) : State.Kept c s s.startGeneration := by
  simp only [State.startGeneration]
  refine (cutFrame s).trans ?_
  generalize s.cutFrame = t
  refine .trans ?_ (activateCode _)
  exact of_same rfl rfl rfl rfl

theorem endGeneration (s : State) : State.Kept c s s.endGeneration := by
  simp only [State.endGeneration]
  split
  · exact of_same rfl rfl rfl rfl
  · exact .refl c s

theorem stowInput (active : Bool) (s : State) : State.Kept c s (s.stowInput active) := by
  have k : State.Kept c s { s with stowin := active } := of_same rfl rfl rfl rfl
  simp only [State.stowInput]
  split
  · exact k.trans (change (setSources ..))
  · exact k

theorem tripInput (active : Bool) (s : State) : State.Kept c s (s.tripInput active) := by
  have k : State.Kept c s { s with tripin := active } := of_same rfl rfl rfl rfl
  simp only [State.tripInput]
  split
  · exact k.trans (change (startGeneration _))
  · exact k

/-! ## Axes (R44 to R58) -/

theorem axisStep (i : Fin 8) (a : AxisId) (s : State) : State.Kept c s (s.axisStep i a) := by
  simp only [State.axisStep]
  split
  · exact updateHelio i (.stepAxis ..)
  · exact .refl c s

theorem homefail (i : Fin 8) (a : AxisId) (s : State) : State.Kept c s (s.homefail i a) := by
  simp only [State.homefail]
  split
  · exact updateHelio i (.homefailTest ..)
  · exact .refl c s

/-- One heliostat replaced, its level left as it is. -/
theorem setHelio (s : State) (i : Fin 8) {h : Helio} (k : Helio.Kept s.sc.state.loaded s.irm.h s.helios[i] h) :
    State.Kept c s { s with helios := s.helios.set i h } := by
  refine of_bank rfl rfl rfl fun j => ?_
  by_cases e : j = i
  · subst e
    rw [set_helio_self]
    exact k
  · rw [set_helio_other _ _ _ _ e]
    exact .refl _

theorem driveFault (i : Fin 8) (active : Bool) (s : State) : State.Kept c s (s.driveFault i active) := by
  have k : State.Kept c s { s with helios := s.helios.set i { s.helios[i] with drvflt := active } } :=
    setHelio s i ⟨fun _ r => { r with }, fun _ => id, id, fun _ => id⟩
  simp only [State.driveFault]
  split
  · exact k.trans (change (updateHelio i (.detect ..)))
  · exact k

end State.Kept
end Sys2Proof.Machine
end

section
/-! What the resets, the end of a load, an index edge and one microsecond keep; every row and every step. -/

namespace Sys2Proof.Machine

/-! ## The values of an image that passes (R2, R33, R43, R182) -/

@[simp] theorem within_iff (x lo hi : Int) : within x lo hi = true ↔ lo ≤ x ∧ x ≤ hi := by simp [within]

/-- R180 to R182: an image that passes has passed the content checks, at a station number of 8 to 399. -/
theorem judgeImage_some {number : Nat} {image : List Byte} {v : ImageValues} (h : judgeImage number image = some v) :
    8 ≤ number ∧ number ≤ 399 ∧ contentFits (imageBytes image (imageLength image)) = true ∧
      v = readValues (imageBytes image (imageLength image)) := by
  simp only [judgeImage] at h
  split at h
  · rename_i k
    simp only [Bool.and_eq_true, decide_eq_true_eq] at k
    exact ⟨k.1.1.2.1, k.1.1.2.2, k.2, (Option.some.inj h).symm⟩
  · cases h

/-- What a heliostat takes from an image that passes is within its ranges. -/
structure HelioImage.InRange (r : HelioImage) : Prop where
  area : r.cfg.area ≤ 600
  delivery : r.cfg.delivery ≤ 255
  stowAz : Signed32 r.cfg.stow.az
  stowEl : Signed32 r.cfg.stow.el
  az : r.az.InRange
  el : r.el.InRange
  homeMax : r.cfg.present = true → 1 ≤ r.az.homeMax ∧ 1 ≤ r.el.homeMax

theorem valueAt_signed (ws : List Word) (i : Nat) : Signed32 (valueAt ws i) := by
  have lo := BitVec.le_toInt (wordAt ws i)
  have hi := BitVec.toInt_lt (x := wordAt ws i)
  norm_num at lo hi
  exact ⟨lo, by simp only [valueAt]; omega⟩

/-- R33, R43: the parameters of an axis that passes its checks. -/
theorem readAxis_inRange {ws : List Word} {a : AxisId} {i : Nat} {stow : Int} (h : axisFits ws a i stow = true) :
    (readAxis ws i).InRange ∧ 1 ≤ (readAxis ws i).homeMax := by
  simp only [axisFits, Bool.and_eq_true, within_iff] at h
  obtain ⟨⟨⟨⟨⟨⟨⟨⟨⟨⟨⟨⟨⟨⟨-, -⟩, -⟩, -⟩, start⟩, slew⟩, track⟩, home⟩, -⟩, -⟩, -⟩, backlash⟩, -⟩, -⟩, max⟩ := h
  simp only [readAxis]
  refine ⟨⟨valueAt_signed .., valueAt_signed .., valueAt_signed .., ?_, ?_, ?_, ?_, ?_, ?_⟩, ?_⟩
  iterate 6 (dsimp only; omega)
  omega

/-- R2, R33, R43: the record of a heliostat that passes its checks, or is absent. -/
theorem readRecord_inRange {ws : List Word} {aims : List AimPoint} {b : Nat} (h : recordFits ws aims b = true) :
    (readRecord ws b).InRange := by
  simp only [readRecord]
  split
  · rename_i p
    simp only [recordFits, p, Bool.not_true, Bool.false_or, Bool.and_eq_true, within_iff] at h
    obtain ⟨⟨⟨⟨⟨⟨-, area⟩, delivery⟩, -⟩, -⟩, az⟩, el⟩ := h
    refine ⟨?_, ?_, valueAt_signed .., valueAt_signed .., (readAxis_inRange az).1, (readAxis_inRange el).1,
      fun _ => ⟨(readAxis_inRange az).2, (readAxis_inRange el).2⟩⟩
    all_goals dsimp only; omega
  · have b : AxisParams.blank.InRange := Axis.blank_inRange.prm
    exact ⟨Nat.zero_le _, Nat.zero_le _, Helio.blank_inRange.stowAz, Helio.blank_inRange.stowEl, b, b, by
      simp [HelioImage.absent, HelioConfig.blank]⟩

/-- R156, R182: what the blocks take of an image that passes. -/
theorem judgeImage_inRange {number : Nat} {image : List Byte} {v : ImageValues} (h : judgeImage number image = some v) :
    v.cfg.dniFloor ≤ 1500 ∧ v.cfg.dniDesign ≤ 1500 ∧ ∀ i : Fin 8, v.records[i].InRange := by
  obtain ⟨-, -, fits, rfl⟩ := judgeImage_some h
  simp only [contentFits, Bool.and_eq_true, List.all_eq_true, List.mem_range] at fits
  obtain ⟨⟨⟨⟨-, station⟩, -⟩, records⟩, -⟩ := fits
  simp only [stationFits, Bool.and_eq_true, within_iff] at station
  obtain ⟨⟨⟨⟨-, floor⟩, design⟩, -⟩, -⟩ := station
  simp only [readValues]
  refine ⟨by omega, by omega, fun i => ?_⟩
  simpa using readRecord_inRange (records i.val i.isLt)

/-! ## A load that passes (R5, R64, R184) -/

/-- R64: a resting heliostat takes a record of the image within its ranges. -/
theorem Helio.InRange.load {h : Helio} (i : h.InRange) (s : h.Still) {r : HelioImage} (q : r.InRange) :
    (h.load r).InRange ∧ (h.load r).Still := by
  have ax : ∀ (a : Axis) (p : AxisParams), a.InRange → a.homingPhase = false → p.InRange →
      (a.load p r.cfg.present).InRange ∧ (a.load p r.cfg.present).homingPhase = false := by
    intro a p ir st pr
    refine ⟨{ ir with prm := pr, takeUp := ?_ }, st⟩
    simp only [Axis.load]
    split
    · exact (Nat.min_le_left _ _).trans ir.takeUp
    · exact ir.takeUp
  have lim : ∀ a : Axis, a.InRange ∧ a.homingPhase = false → a.limitTarget.InRange ∧ a.limitTarget.homingPhase = false ∧
      a.limitTarget.prm = a.prm := by
    rintro a ⟨ir, st⟩
    simp only [Axis.limitTarget]
    split
    · exact ⟨ir, st, rfl⟩
    · exact ⟨ir.writeTarget (Axis.soft_signed ir _), by simpa using st, by simp⟩
  have az := ax h.az r.az i.az.inRange s.1 q.az
  have el := ax h.el r.el i.el.inRange s.2 q.el
  simp only [Helio.load]
  split
  · obtain ⟨azr, azs, azp⟩ := lim _ az
    obtain ⟨elr, els, elp⟩ := lim _ el
    refine ⟨{ i with
      area := q.area, delivery := q.delivery, stowAz := q.stowAz, stowEl := q.stowEl
      az := axisOk_of_still azr (fun p => ?_) azs, el := axisOk_of_still elr (fun p => ?_) els }, azs, els⟩
    · rw [azp]; exact (q.homeMax p).1
    · rw [elp]; exact (q.homeMax p).2
  · exact ⟨{ i with
      area := q.area, delivery := q.delivery, stowAz := q.stowAz, stowEl := q.stowEl
      az := axisOk_of_still az.1 (fun p => (q.homeMax p).1) az.2
      el := axisOk_of_still el.1 (fun p => (q.homeMax p).2) el.2 }, az.2, el.2⟩

theorem Helio.load_homed {h : Helio} {r : HelioImage} (e : (h.load r).homed = true) : h.homed = true := by
  revert e
  simp only [Helio.load]
  split <;> simp_all

theorem Helio.load_assignment (h : Helio) (r : HelioImage) : (h.load r).assignment = h.assignment := by
  simp only [Helio.load]
  split <;> rfl

namespace State.Kept

variable {c : Instr} {s t u : State}

theorem takeImage {v : ImageValues} (loading : s.sc.state = .loading) {number : Nat} {image : List Byte}
    (h : judgeImage number image = some v) : State.Kept c s (s.takeImage v) := by
  obtain ⟨floor, design, records⟩ := judgeImage_inRange h
  have el : ∀ i : Fin 8, (s.takeImage v).helios[i] = s.helios[i].load v.records[i] := fun i => by
    simp [State.takeImage]
  refine ⟨?_, .inl, fun e => ?_, fun e => ?_, fun i e => .inl ?_, fun i ap e => .inl ?_⟩
  · simp only [helioRangesOk_iff, el]
    rintro ⟨-, r, q⟩
    have q := q (by rw [loading]; rfl)
    exact ⟨⟨Nat.zero_le _, Nat.zero_le _, Nat.zero_le _, design, floor, design⟩,
      fun i => ((r i).load (q i) (records i)).1, fun _ i => ((r i).load (q i) (records i)).2⟩
  · rw [loading] at e; cases e
  · rw [loading] at e; cases e
  · exact Helio.load_homed (el i ▸ e)
  · rw [el, Helio.load_assignment] at e; exact e

theorem beginSyncing (loading : s.sc.state = .loading) : State.Kept c s s.beginSyncing := by
  have k : State.Kept c s { s with sc := { s.sc with state := .syncing, listen := false } } := by
    refine ⟨?_, .inl, by simp [loading], by simp [loading, StationState.loaded], fun _ => .inl, fun _ _ => .inl⟩
    rintro ⟨d, r, -⟩
    exact ⟨d, r, by simp [StationState.loaded]⟩
  exact k.trans (reengageAll _)

/-- R5, R184: the homing starts at the end of a load. -/
theorem startHomings (loaded : s.sc.state.loaded = true) : State.Kept c s s.startHomings := by
  refine (List.foldlRecOn (motive := fun t : State => t.sc = s.sc ∧ State.Kept c s t) _ _ ⟨rfl, .refl c s⟩ ?_).2
  rintro t ⟨sc, k⟩ i -
  split
  · rename_i h
    simp only [Helio.startsHoming, Helio.usable, Bool.and_eq_true, beq_iff_eq] at h
    exact ⟨sc, k.trans (updateHelio i (by rw [sc, loaded]; exact .homingStart _ h.1.1.1 h.1.2))⟩
  · exact ⟨sc, k⟩

theorem passLoad {v : ImageValues} (loading : s.sc.state = .loading) {number : Nat} {image : List Byte}
    (h : judgeImage number image = some v) : State.Kept c s (s.passLoad v) := by
  simp only [State.passLoad]
  refine (takeImage loading h).trans ?_
  have l : (s.takeImage v).sc.state = .loading := loading
  generalize s.takeImage v = t at l
  refine .trans (t := t.takeLoadSources) (of_same rfl rfl rfl rfl) ?_
  have l : t.takeLoadSources.sc.state = .loading := l
  generalize t.takeLoadSources = u at l
  refine (beginSyncing l).trans ?_
  have k : u.beginSyncing.sc.state.loaded = true := rfl
  generalize u.beginSyncing = w at k
  refine (startHomings k).trans ?_
  generalize w.startHomings = x
  exact of_same rfl rfl rfl rfl

theorem endLoad (loading : s.sc.state = .loading) (image : List Byte) : State.Kept c s (s.endLoad image) := by
  have k : State.Kept c s { s with bi := { s.bi with timerInstant := s.bi.timerInstant.afterLoad } } :=
    of_same rfl rfl rfl rfl
  simp only [State.endLoad]
  split
  · refine k.trans (of_helios id id ?_ ?_ fun _ => .refl _)
    · simp [loading, StationState.loaded]
    · simp [loading]
  · rename_i v h
    exact k.trans (passLoad loading h)

/-! ## Resets (R192 to R194) -/

theorem hardReset (r : Instr.Resets c) (s : State) : State.Kept c s s.hardReset where
  ranges _ := by
    have z : ∀ n, 0 ≤ n := Nat.zero_le
    simp only [helioRangesOk_iff]
    refine ⟨⟨z _, z _, z _, z _, z _, z _⟩, fun i => ?_, fun _ i => ?_⟩
    all_goals simp only [State.hardReset, Fin.getElem_fin, getElem_mapEach]
    · exact Helio.cleared_inRange _
    · exact ⟨rfl, rfl⟩
  por := .inl
  silent _ := .inr r
  loaded _ := .inr r
  homed i e := by simp [State.hardReset, Helio.cleared, Helio.blank] at e
  assigned i ap e := by simp [State.hardReset, Helio.cleared, Helio.blank] at e

theorem loadIfReleased (k : State.Kept c s t) : State.Kept c s (s.loadIfReleased t) := by
  simp only [State.loadIfReleased]
  split
  · exact k.trans (withSc t _ id rfl)
  · exact k

theorem powerOnReset (i : PowerOnInput) (s : State) : State.Kept (.powerOnReset i) s (s.powerOnReset i.inForce) := by
  simp only [State.powerOnReset]
  split
  · rename_i on
    obtain ⟨f, w⟩ := i
    cases on
    have por : State.Kept (.powerOnReset ⟨true, w⟩) s { s with sc := { s.sc with inPowerOn := true, por := true } } :=
      ⟨id, fun _ => .inr ⟨w, rfl⟩, .inl, .inl, fun _ => .inl, fun _ _ => .inl⟩
    exact por.trans (hardReset (.inl ⟨w, rfl⟩) _)
  · exact loadIfReleased (withSc s _ id rfl)

theorem resetPin (i : ResetnInput) (s : State) : State.Kept (.resetn i) s (s.resetPin (activeLow i.level)) := by
  simp only [State.resetPin]
  split
  · rename_i on
    obtain ⟨l, w⟩ := i
    obtain rfl : l = false := by simpa [activeLow] using on
    refine (withSc s { s.sc with inResetn := true } id rfl).trans (hardReset (.inr (.inl ⟨w, rfl⟩)) _)
  · exact loadIfReleased (withSc s _ id rfl)

/-! ## Index edges (R53, R56) -/

/-- R56: the azimuth edge alone makes a heliostat homed. -/
theorem azimuthEdge (i : Fin 8) (d : s.helios[i].az.drive = .homeSearch) :
    State.Kept (.indexEdge i .az pinHigh) s (s.updateHelio i fun h => h.homingEdge .az) where
  ranges := by
    simp only [helioRangesOk_iff]
    rintro ⟨dni, r, q⟩
    refine ⟨dni, fun j => ?_, fun e j => ?_⟩
    all_goals by_cases e : j = i
    · subst e
      rw [State.updateHelio_self]
      exact ((r j).homingEdge .az d).reengage ..
    · rw [State.updateHelio_other _ _ _ _ e]
      exact r j
    · subst e
      rw [State.updateHelio_self]
      exact Helio.reengage_still (h := s.helios[j].homingEdge .az) ⟨rfl, (q ‹_› j).2⟩ ..
    · rw [State.updateHelio_other _ _ _ _ e]
      exact q ‹_› j
  por := .inl
  silent := .inl
  loaded := .inl
  homed j e := by
    by_cases q : j = i
    · exact .inr (by rw [q])
    · rw [State.updateHelio_other _ _ _ _ q] at e
      exact .inl e
  assigned j ap e := by
    by_cases q : j = i
    · subst q
      rw [State.updateHelio_self] at e
      exact .inl (Helio.reengage_assignment (h := s.helios[j].homingEdge .az) e)
    · rw [State.updateHelio_other _ _ _ _ q] at e
      exact .inl e

theorem elevationEdge (i : Fin 8) (d : s.helios[i].el.drive = .homeSearch) :
    State.Kept c s (s.updateHelio i fun h => h.homingEdge .el) := by
  refine updateHelio i ⟨fun _ r => r.homingEdge .el d, fun _ q => ?_, id, fun _ => id⟩
  exact absurd (q.2.symm.trans ((Axis.homingPhase_eq _).2 (.inr d))) (by decide)

theorem indexRise (i : Fin 8) (a : AxisId) (s : State) : State.Kept (.indexEdge i a pinHigh) s (s.indexRise i a) := by
  simp only [State.indexRise]
  split_ifs with d
  · cases a
    · exact azimuthEdge i d
    · exact elevationEdge i d
  · exact (updateHelio i (.resync ..)).trans (count ..)
  · exact updateHelio i (.detect ..)
  · exact .refl _ s

theorem indexEdge (i : Fin 8) (a : AxisId) (level : Bool) (s : State) :
    State.Kept (.indexEdge i a level) s (s.indexEdge i a level) := by
  have k : State.Kept (.indexEdge i a level) s { s with helios := s.helios.set i (s.helios[i].setIndex a level) } :=
    setHelio s i (.setIndex ..)
  simp only [State.indexEdge]
  split_ifs with h
  · simp only [Bool.and_eq_true] at h
    obtain rfl : level = true := h.1.1.1
    exact k.trans (change (indexRise ..))
  · exact k

/-! ## One microsecond (R44, R157) -/

theorem advance (level : Bool) (s : State) : State.Kept c s (s.advance level) := by
  refine of_helios ?_ id rfl id fun i => ?_
  · rintro ⟨t, p, m, h, f, e⟩
    simp only [DniOk, State.advance, IrradianceMonitor.advance]
    split_ifs with x
    · simp only [Bool.and_eq_true, decide_eq_true_eq] at x
      exact ⟨x.2, p, m, h, f, e⟩
    · exact ⟨t, p, m, h, f, e⟩
  · simp only [State.advance, Fin.getElem_fin, getElem_mapEach]
    exact .advance ..

theorem tick (s : State) : State.Kept c s s.tick := by
  simp only [State.tick]
  split
  · exact .refl c s
  · exact (advance (Config.lineLevel s.draws s.drive) s).trans (of_same rfl rfl rfl rfl)

theorem windowEnd (s : State) : State.Kept c s { s with irm := s.irm.endWindow s.cfg } := by
  refine of_helios ?_ id rfl id fun _ => .refl _
  rintro ⟨t, p, m, h, f, e⟩
  rcases s.irm.endWindow_cases s.cfg with ⟨-, q⟩ | ⟨-, -, -, q⟩ <;> simp only [DniOk, q]
  · exact ⟨t, p, m, h, f, e⟩
  · have m' : measuredDni s.irm.pulses s.cfg.dniScale ≤ 1500 := Nat.min_le_right _ _
    refine ⟨Nat.zero_le _, Nat.zero_le _, m', ?_, f, e⟩
    simp only [nextPlanning]
    split <;> omega

theorem dniPulse (s : State) : State.Kept c s { s with irm := s.irm.pulse } := by
  refine of_helios ?_ id rfl id fun _ => .refl _
  rintro ⟨t, p, m, h, f, e⟩
  simp only [DniOk, IrradianceMonitor.pulse]
  split
  · exact ⟨t, Nat.min_le_right _ _, m, h, f, e⟩
  · exact ⟨t, p, m, h, f, e⟩

/-! ## Every row, every step -/

/-- Whatever the row, what State.Kept names is kept, with the exceptions it names. -/
theorem of_exec (h : exec c s = .next t) : State.Kept c s t := by
  cases c <;> cases h
  case stowField => exact ifRunning fun _ => takeCommand (stationWide _ (State.Kept.stowField _))
  case stowRelease => exact ifRunning fun _ => takeCommand (stationWide _ (State.Kept.stowRelease _))
  case standbySet => exact ifRunning fun _ => takeCommand (stationWide _ (State.Kept.standbySet _))
  case standbyClear => exact ifRunning fun _ => takeCommand (stationWide _ (State.Kept.standbyClear _))
  case hold => exact ifRunning fun _ => takeCommand (State.Kept.hold ..)
  case holdRelease => exact ifRunning fun _ => takeCommand (State.Kept.holdRelease ..)
  case serviceOut => exact ifRunning fun _ => takeCommand (State.Kept.serviceOut ..)
  case serviceIn => exact ifRunning fun r => takeCommand (State.Kept.serviceIn (of_running r) _)
  case correct => exact ifRunning fun _ => takeCommand (State.Kept.correct ..)
  case rehome => exact ifRunning fun r => takeCommand (State.Kept.rehome (of_running r) _)
  case defocusRelease => exact ifRunning fun _ => takeCommand (stationWide _ (State.Kept.defocusRelease _))
  case clearAlerts => exact ifRunning fun _ => takeCommand (stationWide _ (State.Kept.clearAlerts _))
  case clearSticky => exact ifRunning fun _ => takeCommand (stationWide _ (State.Kept.clearSticky _))
  case report => exact ifRunning fun _ => takeCommand (State.Kept.report ..)
  case restart => exact ifRunning fun _ => State.Kept.restart (fun e => .inr (.inr (.inl (congrArg _ e)))) _
  case reservedCommand =>
    refine ifRunning fun _ => ?_
    split
    · exact answer ..
    · exact .refl ..
  case sunFrame => exact receiveBody _ _ (by simp) _
  case receiverFrame => exact receiveBody _ _ (by simp) _
  case contributionFrame => exact receiveBody _ _ (by simp) _
  case ownNumberFrame =>
    show State.Kept _ _ (ite _ _ _)
    split
    · exact takeFrame (of_running (State.running_of_accepts ‹_›)) _ _ (by simp)
    · exact .refl ..
  case frameDropped raw => exact receiveRaw raw (fun es j r => .inr (.inr (.inr (.inr ⟨raw, es, rfl, j, r⟩)))) _
  case commandFrame slot es =>
    refine receiveBody _ _ (fun es' e r => ?_) _
    cases e
    exact .inr (.inr (.inr (.inl ⟨slot, es, rfl, r⟩)))
  case epochStart => exact unlessCut (wrap ..)
  case timeMark => exact unlessReset (State.Kept.timeMark ..)
  case markWindowClose => exact unlessReset (closeWindow _)
  case markLost => exact unlessReset (change (markLostTest _))
  case slotStart =>
    refine unlessCut ?_
    split
    · exact startSlot ..
    · exact .refl ..
  case busLost => exact ifRunning fun _ => change (busLostTest _)
  case build =>
    show State.Kept _ _ (ite _ _ _)
    split
    · exact buildFrame _
    · exact .refl ..
  case frameBegin => exact ifRunning fun _ => frameStart _
  case transmitCompletion =>
    refine ifRunning fun _ => ?_
    split
    · exact completeFrame _
    · exact .refl ..
  case echoMismatch =>
    refine ifRunning fun _ => ?_
    split
    · exact echoAbort _
    · exact .refl ..
  case enterSilent =>
    refine ifRunning fun _ => ?_
    split
    · exact change (becomeSilent (silentDecided_loaded ‹_›))
    · exact .refl ..
  case enterIsolated =>
    refine ifRunning fun _ => ?_
    split
    · rename_i d
      exact change (becomeIsolated (isolatedDecided_state d).1 (isolatedDecided_state d).2)
    · exact .refl ..
  case enterNight =>
    refine ifRunning fun _ => ?_
    split
    · exact change (State.Kept.enterNight ‹_›)
    · exact .refl ..
  case sunRecordExpiry => exact ifRunning fun _ => of_same rfl rfl rfl rfl
  case rxStale => exact ifRunning fun _ => change (rxStaleTest _)
  case peerAgeOut => exact ifRunning fun _ => of_same rfl rfl rfl rfl
  case residueExpiry => exact ifRunning fun _ => of_same rfl rfl rfl rfl
  case aimTick => exact ifRunning fun _ => State.Kept.aimTick ..
  case axisStep =>
    show State.Kept _ _ (ite _ _ _)
    split
    · exact .refl ..
    · exact change (State.Kept.axisStep ..)
  case indexEdge => exact State.Kept.indexEdge ..
  case homefail =>
    show State.Kept _ _ (ite _ _ _)
    split
    · exact .refl ..
    · exact change (State.Kept.homefail ..)
  case driveFault => exact State.Kept.driveFault ..
  case stowInputChange => exact stowInput ..
  case tripEdge => exact tripInput ..
  case generationEnd => exact ifRunning fun _ => endGeneration _
  case activateDetection => exact receiveBit ..
  case releaseDetection => exact receiveBit ..
  case detectorLock => exact receiveBit ..
  case dniPulse => exact ifRunning fun _ => State.Kept.dniPulse _
  case windowEnd => exact ifRunning fun _ => change (State.Kept.windowEnd _)
  case powerOnReset i => exact .trans (t := s.strapsAt i.straps) (of_same rfl rfl rfl rfl) (State.Kept.powerOnReset i (s.strapsAt i.straps))
  case resetn i => exact .trans (t := s.strapsAt i.straps) (of_same rfl rfl rfl rfl) (resetPin i (s.strapsAt i.straps))
  case loadEnd w image =>
    show State.Kept _ _ (ite _ _ _)
    split
    · rename_i h
      exact .trans (t := s.strapsAt w) (of_same rfl rfl rfl rfl) (endLoad (s := s.strapsAt w) h.1 image)
    · exact .refl ..

end State.Kept

/-- Whatever happens in a step, the ranges of chapters 1 to 3 are kept. -/
theorem step_keeps_ranges {s t : State} (ok : HelioRangesOk s) (h : step s = .next t) : HelioRangesOk t := by
  cases p : s.pending with
  | nil =>
    rw [step_nil p] at h
    cases h
    exact (State.Kept.tick (c := .busLost) s).ranges ok
  | cons c rest =>
    rw [step_cons p] at h
    exact (State.Kept.of_exec h).ranges ok

/-- Settles O58: a step is one microsecond or a row, and each keeps the ranges (State.Kept). -/
theorem driveRegistersStayInRange : Obligations.DriveRegistersStayInRange := fun _ _ ok h => step_keeps_ranges ok h

/-- Settles O56: each clause is one of what State.Kept says of every row. -/
theorem onlyTheseEvents : Obligations.OnlyTheseEvents := by
  intro c s t h
  have k := State.Kept.of_exec h
  exact ⟨fun n e => (k.por e).resolve_left (by simp [n]), fun e n => (k.silent e).resolve_left n,
    fun i n e => (k.homed i e).resolve_left (Bool.eq_false_iff.1 n), fun i ap n e => (k.assigned i ap e).resolve_left n⟩

end Sys2Proof.Machine
end

section
/-! Entries refused for their heliostat field (R14, R73, R76, R103), RESTART and the resets (R192 to R195), and the
invariants at reset. -/

namespace Sys2Proof.Machine

@[simp] theorem State.ifRunning_of_running {s : State} (h : s.running = true) (f : State → State) :
    s.ifRunning f = f s := if_pos h

theorem stationWide_of_ne {hf : Byte} (h : hf ≠ 255) (f : State → Result × State) (s : State) :
    stationWide hf f s = (.range, s) := if_neg h

/-- R103: the row of an entry that its owner refuses, in a running station. -/
theorem refused_row {s : State} (run : s.running = true) {k hf : Byte} {f : State → Result × State} {r : Result}
    (h : f s = (r, s)) :
    ∃ t, (Host.Outcome.next (s.ifRunning fun s => s.takeCommand k hf f) : Host.Outcome State Fault Refusal) = .next t ∧
      Refused s t k hf r :=
  ⟨_, by rw [State.ifRunning_of_running run], s.takeCommand_refused k hf f r h⟩

/-- Settles O9: a field that a command does not take is refused before its owner reads anything else. -/
theorem wrongHeliostatFieldsAreRange : Obligations.WrongHeliostatFieldsAreRange := by
  intro s hf run
  refine ⟨fun n => ?_, fun a b absent => ?_⟩
  · have wide := fun f => stationWide_of_ne n f s
    refine ⟨refused_row run (wide _), refused_row run (wide _), refused_row run (wide _), refused_row run (wide _),
      refused_row run (wide _), refused_row run (wide _), refused_row run (wide _), s.answer 15 hf .range, ?_,
      s.answer_spec 15 hf .range⟩
    simp only [exec, execRestart, State.ifRunning_of_running run, State.restart]
    exact congrArg _ (if_neg n)
  · have none := s.presentIndex_of_absent hf absent
    refine ⟨refused_row run ?_, refused_row run ?_, refused_row run ?_, refused_row run ?_, refused_row run ?_,
      fun n => ⟨refused_row run ?_, refused_row run ?_⟩⟩
    case refine_6 => simp only [rehomeEffect, none]; exact if_neg n
    case refine_7 => simp only [reportEffect, none]; exact if_neg n
    all_goals simp only [holdEffect, holdReleaseEffect, serviceOutEffect, serviceInEffect, correctEffect, none]

@[simp] theorem State.answer_line (s : State) (k hf : Byte) (r : Result) : (s.answer k hf r).bi.line = s.bi.line := by
  simp only [State.answer, BusInterface.addOutcome]
  split <;> rfl

/-- R193: all that a soft reset keeps beside the heliostats. -/
theorem State.softReset_eq (s : State) : s.softReset = { State.reset with
    pending := s.pending, draws := s.draws, cfg := s.cfg, helios := s.softReset.helios
    stowin := s.stowin, tripin := s.tripin, straps := s.straps
    bi := { State.reset.bi with line := s.bi.line, timerInstant := .cut }
    sc := { s.sc with state := .loading, listen := false, isoCount := 0, number := s.straps.toNat } } := rfl

/-- R180, R192: the end of a reset samples the straps where none is left in force. -/
theorem State.loadIfReleased_eq (s t : State) : s.loadIfReleased t = { t with sc := { t.sc with
    number := if s.inReset = true ∧ t.inReset = false then t.straps.toNat else t.sc.number } } := by
  by_cases h : s.inReset = true ∧ t.inReset = false
  · simp only [State.loadIfReleased, h.1, h.2, if_pos, and_self, Bool.not_false, Bool.and_self]
    rfl
  · have n : (s.inReset && !t.inReset) = false := by simpa using h
    simp only [State.loadIfReleased, n, if_neg h]
    rfl

/-- Settles O18: RESTART with 0xFF is answered, and the soft reset follows. -/
theorem restartKeepsWhatItKeeps : Obligations.RestartKeepsWhatItKeeps := by
  intro s run
  refine ⟨(s.answer 15 255 .done).softReset, ?_, fun i => ?_, ?_⟩
  · simp only [exec, execRestart, State.ifRunning_of_running run, State.restart]
    rfl
  · simp only [State.softReset, State.sampleStraps, Fin.getElem_fin, getElem_mapEach]
    rfl
  · rw [State.softReset_eq, State.answer_line]
    rfl

/-- Settles O53: each reset in force gives the reset values; its end begins the load where it was the last. -/
theorem resetsGiveTheResetValues : Obligations.ResetsGiveTheResetValues := by
  intro s w
  have bank : ∀ (t : State) (i : Fin 8), t.hardReset.helios[i] = { State.reset.helios[i] with
      drvflt := t.helios[i].drvflt
      az := { State.reset.helios[i].az with index := t.helios[i].az.index }
      el := { State.reset.helios[i].el with index := t.helios[i].el.index } } := fun t i => by
    have blank : State.reset.helios[i] = .blank := by simp [State.reset]
    rw [blank]
    simp only [State.hardReset, Fin.getElem_fin, getElem_mapEach]
    rfl
  refine ⟨⟨_, rfl, rfl, bank _, rfl⟩, ⟨_, rfl, rfl, bank _, rfl⟩, ?_, ?_⟩
  · have last : ((s.sc.inPowerOn || s.sc.inResetn) = true ∧ (false || s.sc.inResetn) = false) ↔
        (s.sc.inPowerOn = true ∧ s.sc.inResetn = false) := by
      cases s.sc.inResetn <;> simp
    show Host.Outcome.next (State.loadIfReleased _ _) = _
    rw [State.loadIfReleased_eq]
    simp only [State.inReset, State.strapsAt, last]
  · have last : ((s.sc.inPowerOn || s.sc.inResetn) = true ∧ (s.sc.inPowerOn || false) = false) ↔
        (s.sc.inResetn = true ∧ s.sc.inPowerOn = false) := by
      cases s.sc.inPowerOn <;> simp
    show Host.Outcome.next (State.loadIfReleased _ _) = _
    rw [State.loadIfReleased_eq]
    simp only [State.inReset, State.strapsAt, last]

theorem State.reset_helio (i : Fin 8) : State.reset.helios[i] = .blank := by simp [State.reset]

/-- Settles O59: at reset every heliostat is blank, every table empty and every register at 0. -/
theorem invariantsHoldAtReset : Obligations.InvariantsHoldAtReset := by
  have engaged : EngagedOk State.reset := by decide
  refine ⟨engaged, ⟨by decide, engaged, by decide, by decide, by decide, by decide, by decide⟩, by decide, by decide,
    by decide, by decide, ?_⟩
  rw [helioRangesOk_iff]
  simp only [State.reset_helio]
  exact ⟨by decide, fun _ => Helio.blank_inRange, fun _ _ => ⟨rfl, rfl⟩⟩

end Sys2Proof.Machine
end

section
/-! SERVICE-OUT, SERVICE-IN and CORRECT (R12 to R16). -/

namespace Sys2Proof.Machine

/-! ## Conditions over the bank (R196, R197) -/

theorem any_helio (v : Vector Helio 8) (p : Helio → Bool) : v.toList.any p = true ↔ ∃ i : Fin 8, p v[i] = true := by
  simp only [List.any_eq_true, Vector.mem_toList_iff, Vector.mem_iff_getElem]
  constructor
  · rintro ⟨h, ⟨i, hi, rfl⟩, e⟩
    exact ⟨⟨i, hi⟩, e⟩
  · rintro ⟨i, e⟩
    exact ⟨_, ⟨i.val, i.isLt, rfl⟩, e⟩

theorem all_helio (v : Vector Helio 8) (p : Helio → Bool) : v.toList.all p = true ↔ ∀ i : Fin 8, p v[i] = true := by
  simp only [List.all_eq_true, Vector.mem_toList_iff, Vector.mem_iff_getElem]
  constructor
  · exact fun h i => h _ ⟨i.val, i.isLt, rfl⟩
  · rintro h _ ⟨i, hi, rfl⟩
    exact h ⟨i, hi⟩

theorem any_helio_congr {v w : Vector Helio 8} {p : Helio → Bool} (h : ∀ i : Fin 8, p w[i] = p v[i]) :
    w.toList.any p = v.toList.any p := by
  rw [Bool.eq_iff_iff, any_helio, any_helio]
  simp only [h]

theorem all_helio_congr {v w : Vector Helio 8} {p : Helio → Bool} (h : ∀ i : Fin 8, p w[i] = p v[i]) :
    w.toList.all p = v.toList.all p := by
  rw [Bool.eq_iff_iff, all_helio, all_helio]
  simp only [h]

/-- R84, R196: of a heliostat the status conditions read the level, usability, posture, fault and LIMIT. -/
theorem State.conditions_bank (s : State) {v : Vector Helio 8}
    (h : ∀ i : Fin 8, v[i].engaged = s.helios[i].engaged ∧ v[i].usable = s.helios[i].usable ∧
      v[i].posture = s.helios[i].posture ∧ v[i].fault = s.helios[i].fault ∧ v[i].limit = s.helios[i].limit) :
    ({ s with helios := v } : State).conditions = s.conditions := by
  have active : ({ s with helios := v } : State).stowActive = s.stowActive :=
    any_helio_congr fun i => by rw [(h i).1]
  have complete : ({ s with helios := v } : State).stowComplete = s.stowComplete :=
    congr_arg₂ and (any_helio_congr fun i => (h i).2.1)
      (all_helio_congr fun i => by rw [(h i).1, (h i).2.1, (h i).2.2.1])
  have fault : ({ s with helios := v } : State).helioFault = s.helioFault :=
    any_helio_congr fun i => by rw [(h i).2.2.2.1]
  have limit : ({ s with helios := v } : State).limitAny = s.limitAny := any_helio_congr fun i => (h i).2.2.2.2
  have e : ({ s with helios := v } : State).conditionList = s.conditionList := by
    simp only [State.conditionList, active, complete, fault, limit]
    rfl
  exact eq_of_heq (congr_arg_heq BitVec.ofBoolListLE e)

/-- R196: a heliostat replaced by one that shows the same changes no condition. -/
theorem State.conditions_set (s : State) (i : Fin 8) {h : Helio} (e : h.engaged = s.helios[i].engaged)
    (u : h.usable = s.helios[i].usable) (p : h.posture = s.helios[i].posture) (f : h.fault = s.helios[i].fault)
    (l : h.limit = s.helios[i].limit) : ({ s with helios := s.helios.set i h } : State).conditions = s.conditions := by
  refine s.conditions_bank fun j => ?_
  by_cases q : j = i
  · subst q
    rw [set_helio_self]
    exact ⟨e, u, p, f, l⟩
  · rw [set_helio_other _ _ _ _ q]
    exact ⟨rfl, rfl, rfl, rfl, rfl⟩

/-- R103, R197: a taken entry is its owner's effect, the latches of the conditions it changes, and its answer. -/
theorem State.takeCommand_eq {s u : State} {k hf : Byte} {f : State → Result × State} {r : Result} (h : f s = (r, u))
    (run : s.running = true) (run' : u.running = true) :
    s.takeCommand k hf f = ({ u with au := u.au.latch s.conditions u.conditions } : State).answer k hf r := by
  simp [State.takeCommand, State.change, State.observed, h, run, run']

/-! ## CORRECT (R16) -/

/-- Settles O14: the offsets are read by no status condition, so no latch is set. -/
theorem correctReplacesBothOffsets : Obligations.CorrectReplacesBothOffsets := by
  intro s i dAz dEl run present hf fits
  have index : s.presentIndex hf = some i := s.presentIndex_of_present i present
  have test : (correctionFits dAz.toInt && correctionFits dEl.toInt) = true ↔ fits := by
    simp [correctionFits, fits, and_assoc]
  refine ⟨fun ok => ?_, fun no => ?_⟩
  · let u : State := { s with helios := s.helios.set i { s.helios[i] with dAz := dAz.toInt, dEl := dEl.toInt } }
    have e : correctEffect hf (signedParam dAz) (signedParam dEl) s = (.done, u) := by
      simp only [correctEffect, index, signedParam]
      exact if_pos (test.2 ok)
    have c : u.conditions = s.conditions := s.conditions_set i rfl rfl rfl rfl rfl
    have t : s.correct hf dAz dEl = u.answer 9 hf .done := by
      rw [State.correct, State.takeCommand_eq e run run, c, AlertUnit.latch_self]
    exact ⟨u.answer 9 hf .done, by rw [← t]; exact congrArg _ (State.ifRunning_of_running run _),
      u.answer_spec 9 hf .done⟩
  · refine refused_row run ?_
    simp only [correctEffect, index, signedParam]
    exact if_neg fun h => no (test.1 h)

/-! ## The interest set followed (R12, R13) -/

theorem itemFor_append (a b : List PlanItem) (z : Nat) : itemFor (a ++ b) z = (itemFor a z).or (itemFor b z) :=
  List.find?_append

theorem itemFor_zone {l : List PlanItem} {z : Nat} {i : PlanItem} (h : itemFor l z = some i) : i.zone = z := by
  simpa using List.find?_some h

/-- A list whose items are replaced zone by zone. -/
theorem itemFor_map (l : List PlanItem) (f : PlanItem → PlanItem) (h : ∀ i, (f i).zone = i.zone) (z : Nat) :
    itemFor (l.map f) z = (itemFor l z).map f := by
  simp only [itemFor, List.find?_map]
  congr 2
  funext i
  simp [h]

/-- The item of a list with one item made for each zone of a set. -/
theorem itemFor_zones (zones : List Nat) (f : Nat → PlanItem) (h : ∀ z, (f z).zone = z) (z : Nat) :
    itemFor (zones.map f) z = if z ∈ zones then some (f z) else none := by
  induction zones with
  | nil => rfl
  | cons y rest ih =>
    by_cases e : y = z
    · subst e
      simp [itemFor, h]
    · have n : z ≠ y := fun q => e q.symm
      simpa [itemFor, h, e, n] using ih

/-- R13: the item of a followed plan: as it was, without its want flag where the zone has departed, or new at 0. -/
theorem itemFor_followPlan (plan : List PlanItem) (zones : List Nat) (z : Nat) :
    itemFor (followPlan plan zones) z = match itemFor plan z with
      | some i => some { i with want := i.want && zones.contains z }
      | none => if z ∈ zones then some { zone := z, planned := 0, want := false } else none := by
  rw [followPlan, itemFor_append, itemFor_map _ _ (by intro; rfl), itemFor_zones _ _ (by intro; rfl)]
  cases h : itemFor plan z with
  | some i => simp [itemFor_zone h]
  | none => simp [h]

/-- R13: the residue record of a zone of the set, kept or new at 0. -/
def followedResidue (l : List Residue) (z : Nat) : Residue :=
  (l.find? fun r => r.zone == z).getD { zone := z, value := 0, expiry := 0 }

theorem followedResidue_zone (l : List Residue) (z : Nat) : (followedResidue l z).zone = z := by
  cases h : l.find? fun r => r.zone == z with
  | none => simp [followedResidue, h]
  | some r => simpa [followedResidue, h] using List.find?_some h

theorem PeerTable.follow_residue (pt : PeerTable) (zones : List Nat) :
    (pt.follow zones).residue = zones.map (followedResidue pt.residue) := by
  refine List.map_congr_left fun z _ => ?_
  cases h : pt.residue.find? fun r => r.zone == z <;> simp only [followedResidue, h] <;> rfl

/-- R12, R13: what a recomputation of the interest set does to the Peer Table and the plan. -/
theorem State.recomputeInterest_followed (s : State) : InterestFollowed s s.recomputeInterest := by
  have residue : s.recomputeInterest.pt.residue = s.interestZones.map (followedResidue s.pt.residue) :=
    s.pt.follow_residue _
  refine ⟨?_, fun r hr => ?_, fun i w => ⟨?_, ?_⟩, fun z => ⟨?_, ?_⟩, fun z hz => ?_, rfl⟩
  · rw [residue, List.map_map]
    exact (List.map_congr_left fun z _ => followedResidue_zone _ z).trans (List.map_id _)
  · rw [residue] at hr
    obtain ⟨z, -, rfl⟩ := List.mem_map.1 hr
    rw [followedResidue_zone]
    cases h : s.pt.residue.find? fun x => x.zone == z <;> simp only [followedResidue, h] <;> rfl
  · simp [State.recomputeInterest, PeerTable.follow]
  · have way : ∀ e, restrictEntry s.interestZones e = match e with
        | none => none
        | some e =>
          let kept := e.items.filter fun x => s.interestZones.contains x.zone
          if kept = [] then none else some { e with items := kept } := by
      intro e
      cases e <;> simp [restrictEntry]
    simp only [State.recomputeInterest, PeerTable.follow, Fin.getElem_fin, getElem_mapEach]
    cases w
    · exact way _
    · exact way _
  · simp only [State.recomputeInterest, wantFor, itemFor_followPlan]
    cases itemFor s.fa.plan z with
    | some i => rfl
    | none => by_cases m : z ∈ s.interestZones <;> simp [m]
  · simp only [State.recomputeInterest, plannedFor, itemFor_followPlan]
    cases itemFor s.fa.plan z with
    | some i => rfl
    | none => by_cases m : z ∈ s.interestZones <;> simp [m]
  · have m : z ∈ s.interestZones := hz
    simp only [State.recomputeInterest, itemFor_followPlan]
    cases itemFor s.fa.plan z with
    | some i => rfl
    | none => simp [m]

end Sys2Proof.Machine
end

section
namespace Sys2Proof.Machine

/-! ## SERVICE-OUT (R14) -/

/-- Settles O12: the owner's effect is `outOfService` and a recomputation of the interest set. -/
theorem serviceOutTakesOut : Obligations.ServiceOutTakesOut := by
  intro s i run present hf
  have index : s.presentIndex hf = some i := s.presentIndex_of_present i present
  refine ⟨fun out => ?_, fun inn => ?_⟩
  · refine refused_row run ?_
    simp only [serviceOutEffect, index]
    exact if_neg (Bool.eq_false_iff.1 out)
  · let u : State := (s.updateHelio i Helio.takeOut).recomputeInterest
    have e : serviceOutEffect hf s = (.done, u) := by
      simp only [serviceOutEffect, index]
      exact if_pos inn
    obtain ⟨answered, latched, -⟩ := s.takeCommand_taken 7 hf _ _ _ e run run rfl rfl
    refine ⟨s.serviceOut hf, congrArg _ (State.ifRunning_of_running run _), answered, latched, ?_⟩
    rw [State.serviceOut, State.takeCommand_eq e run run]
    refine ⟨fun j hj => s.updateHelio_other i j _ hj, ?_, rfl, (s.updateHelio i Helio.takeOut).recomputeInterest_followed, rfl⟩
    exact (s.updateHelio_self i _).trans (Helio.takeOut_reengage ..)

/-! ## SERVICE-IN (R15) -/

/-- R67, R68: a masked heliostat engaged at NONE stays there. -/
theorem Helio.reengage_of_masked {h : Helio} {l : Bool} (m : h.masked l = true) (e : h.engaged = .none) (src : Sources) :
    h.reengage src l = h :=
  Helio.reengage_of_engaged (by simp [Helio.governing, m, e])

theorem Helio.masked_of_not_homed {h : Helio} (n : h.homed = false) (l : Bool) : h.masked l = true := by
  simp [Helio.masked, n]

/-- R197: of three states in a row, the change from the first to the last sets no latch that the two between did not. -/
theorem AlertUnit.latch_through (au : AlertUnit) (x y z : BitVec 16) :
    ((au.latch x y).latch y z).latch x z = (au.latch x y).latch y z := by
  simp only [AlertUnit.latch, AlertUnit.mk.injEq, true_and]
  refine ⟨?_, ?_, ?_⟩
  all_goals
    ext k hk
    simp only [BitVec.getElem_or, BitVec.getElem_and, BitVec.getElem_xor, BitVec.getElem_not]
    cases x[k] <;> cases y[k] <;> cases z[k] <;> simp

/-- R54, R58: a homing start leaves the heliostat not homed and every field but the homing order, the axes and, with DRVFLT
active, the fault and the placement as it was. -/
theorem Helio.homingStart_of_drvflt (h : Helio) (e : h.drvflt = true) (f : h.fault = .none) :
    h.homingStart = { homingBegun h with
      fault := .drive, homed := false, deferred := none, placementP := 0, homing := none
      az := (homingBegun h).az.halt, el := (homingBegun h).el.halt } := by
  simp [Helio.homingStart, Helio.detect, homingBegun, e, f]

theorem Helio.homingStart_masked (h : Helio) (l : Bool) : h.homingStart.masked l = true := by
  refine Helio.masked_of_not_homed ?_ l
  simp only [Helio.homingStart, Helio.detect]
  repeat' split
  all_goals rfl

theorem Helio.homingStart_engaged (h : Helio) : h.homingStart.engaged = h.engaged := by
  simp only [Helio.homingStart, Helio.detect]
  repeat' split
  all_goals rfl

/-- R58, R59: what the two axes hold where a homing start finds DRVFLT active. -/
theorem Helio.homingStart_axis (h : Helio) (e : h.drvflt = true) (f : h.fault = .none) (a : AxisId) :
    let x := h.homingStart.axis a
    x.drive = .rest ∧ x.period = 0 ∧ x.target = x.position ∧ x.prm = (h.axis a).prm ∧ x.index = (h.axis a).index := by
  simp only [h.homingStart_of_drvflt e f]
  cases a
  all_goals
    simp only [Helio.axis, homingBegun]
    obtain ⟨d, p, t, m, n, -⟩ := Axis.halt_spec _
    exact ⟨d, p, t, m.trans (by simp), n.trans (by simp)⟩

/-- The station with another Alert Unit. -/
def State.withAu (s : State) (au : AlertUnit) : State := { s with au := au }

/-- The station with one heliostat replaced. -/
def State.withHelio (s : State) (i : Fin 8) (h : Helio) : State := { s with helios := s.helios.set i h }

@[simp] theorem State.withAu_conditions (s : State) (au : AlertUnit) : (s.withAu au).conditions = s.conditions := rfl
@[simp] theorem State.withAu_au (s : State) (au : AlertUnit) : (s.withAu au).au = au := rfl
@[simp] theorem State.withAu_withHelio (s : State) (i : Fin 8) (h : Helio) (au : AlertUnit) :
    (s.withAu au).withHelio i h = (s.withHelio i h).withAu au := rfl
@[simp] theorem State.withHelio_self (s : State) (i : Fin 8) (h : Helio) : (s.withHelio i h).helios[i] = h :=
  set_helio_self ..
@[simp] theorem State.withHelio_withHelio (s : State) (i : Fin 8) (h h' : Helio) :
    (s.withHelio i h).withHelio i h' = s.withHelio i h' := by simp [State.withHelio]

/-- R12, R13, R196: a recomputation of the interest set changes no status condition. -/
@[simp] theorem State.recomputeInterest_conditions (s : State) : s.recomputeInterest.conditions = s.conditions :=
  State.conditions_congr rfl rfl rfl rfl rfl rfl rfl rfl rfl rfl rfl

/-- R197: a change of a running station is the change and its latches. -/
theorem State.change_withAu {s : State} {f : State → State} (run : s.running = true) (run' : (f s).running = true) :
    s.change f = (f s).withAu ((f s).au.latch s.conditions (f s).conditions) := by
  rw [State.change_eq, State.change_au _ _ run run']
  rfl

/-- R68: a heliostat that is masked and engaged at NONE is replaced with its level as it is. -/
theorem State.updateHelio_masked {s : State} {i : Fin 8} {f : Helio → Helio}
    (m : (f s.helios[i]).masked s.sc.state.loaded = true) (e : (f s.helios[i]).engaged = .none) :
    s.updateHelio i f = s.withHelio i (f s.helios[i]) := by
  rw [State.updateHelio, Helio.reengage_of_masked m e]
  rfl

/-- R15, R197: SERVICE-IN of a heliostat that is OUT: two changes, the second of them the homing start. -/
theorem serviceInEffect_eq {s : State} {hf : Byte} {i : Fin 8} (run : s.running = true)
    (index : s.presentIndex hf = some i) (out : s.helios[i].inService = false)
    (free : ¬(s.helios[i].fault = .drive ∧ s.helios[i].drvflt = true)) (none : s.helios[i].engaged = .none) :
    serviceInEffect hf s = (.done, ((s.withHelio i s.helios[i].takeIn.homingStart).withAu
      ((s.au.latch s.conditions (s.withHelio i s.helios[i].takeIn).conditions).latch
        (s.withHelio i s.helios[i].takeIn).conditions
        (s.withHelio i s.helios[i].takeIn.homingStart).conditions)).recomputeInterest) := by
  have first : (s.change fun s => s.updateHelio i Helio.takeIn) = (s.withHelio i s.helios[i].takeIn).withAu
      (s.au.latch s.conditions (s.withHelio i s.helios[i].takeIn).conditions) := by
    rw [State.change_withAu run run, State.updateHelio_masked (Helio.masked_of_not_homed rfl _) none]
    rfl
  have second : ∀ au, (((s.withHelio i s.helios[i].takeIn).withAu au).change fun s => s.updateHelio i Helio.homingStart) =
      (s.withHelio i s.helios[i].takeIn.homingStart).withAu (au.latch (s.withHelio i s.helios[i].takeIn).conditions
        (s.withHelio i s.helios[i].takeIn.homingStart).conditions) := by
    intro au
    have self : ((s.withHelio i s.helios[i].takeIn).withAu au).helios[i] = s.helios[i].takeIn := State.withHelio_self ..
    have replaced : ((s.withHelio i s.helios[i].takeIn).withAu au).updateHelio i Helio.homingStart =
        (s.withHelio i s.helios[i].takeIn.homingStart).withAu au := by
      rw [State.updateHelio_masked (Helio.homingStart_masked ..)
        ((Helio.homingStart_engaged _).trans (by rw [self]; exact none)), self, State.withAu_withHelio,
        State.withHelio_withHelio]
    rw [State.change_withAu (s := (s.withHelio i s.helios[i].takeIn).withAu au) (f := fun s => s.updateHelio i Helio.homingStart)
      run run, replaced]
    rfl
  simp only [serviceInEffect, index, out, Bool.false_eq_true, if_false, if_neg free, first, second]

/-- R54, R58: with DRVFLT inactive a homing start from NONE shows nothing new: HOMING, as before it. -/
theorem State.homingStart_conditions (s : State) (i : Fin 8) (e : s.helios[i].drvflt = false) :
    (s.withHelio i s.helios[i].takeIn.homingStart).conditions = (s.withHelio i s.helios[i].takeIn).conditions := by
  have self : (s.withHelio i s.helios[i].takeIn).helios[i] = s.helios[i].takeIn := State.withHelio_self ..
  have p : ∀ h : Helio, h.homed = false → (homingBegun h).posture = h.posture := by
    intro h n
    simp [Helio.posture, homingBegun, n]
  rw [Helio.homingStart_of_quiet s.helios[i].takeIn e, ← State.withHelio_withHelio s i s.helios[i].takeIn]
  exact State.conditions_set _ i (by rw [self]; rfl) (by rw [self]; rfl) (by rw [self]; exact p _ rfl) (by rw [self]; rfl)
    (by rw [self]; rfl)

/-- Settles O13: SERVICE-IN is two changes and a recomputation of the interest set. -/
theorem serviceInStartsHoming : Obligations.ServiceInStartsHoming := by
  intro s i run ok present hf h inNow
  have index : s.presentIndex hf = some i := s.presentIndex_of_present i present
  refine ⟨fun refused => ?_, fun out free => ?_⟩
  · refine refused_row run ?_
    simp only [serviceInEffect, index]
    by_cases inn : h.inService = true
    · exact if_pos inn
    · exact (if_neg inn).trans (if_pos (refused.resolve_left inn))
  · have masked : h.masked s.sc.state.loaded = true := by simp [Helio.masked, Helio.usable, out]
    have none : h.engaged = .none := (ok i).trans (if_pos masked)
    have t : s.serviceIn hf = ((((s.withHelio i h.takeIn.homingStart).withAu
        ((s.au.latch s.conditions (s.withHelio i h.takeIn).conditions).latch (s.withHelio i h.takeIn).conditions
          (s.withHelio i h.takeIn.homingStart).conditions)).recomputeInterest).answer 8 hf .done) := by
      rw [State.serviceIn, State.takeCommand_eq (serviceInEffect_eq run index out free none) run run,
        State.recomputeInterest_conditions, State.withAu_conditions, State.recomputeInterest_au, State.withAu_au,
        AlertUnit.latch_through]
      rfl
    have conditions : (s.serviceIn hf).conditions = (s.withHelio i h.takeIn.homingStart).conditions := by
      rw [t, State.answer_conditions, State.recomputeInterest_conditions, State.withAu_conditions]
    have au : (s.serviceIn hf).au = (s.au.latch s.conditions (s.withHelio i h.takeIn).conditions).latch
        (s.withHelio i h.takeIn).conditions (s.serviceIn hf).conditions := by
      rw [conditions, t]
      rfl
    have self : (s.serviceIn hf).helios[i] = h.takeIn.homingStart := by
      rw [t]
      exact State.withHelio_self ..
    refine ⟨s.serviceIn hf, congrArg _ (State.ifRunning_of_running run _), ?_, ?_, au, ?_, ?_, ?_, ?_, ?_⟩
    · rw [t]
      exact (State.answer_spec _ 8 hf .done).1
    · intro j hj
      rw [t]
      exact set_helio_other _ _ _ _ hj
    · intro quiet
      refine ⟨self.trans (Helio.homingStart_of_quiet _ quiet), au.trans ?_⟩
      rw [conditions, s.homingStart_conditions i quiet, AlertUnit.latch_self]
    · intro active
      refine ⟨?_, fun a => ?_⟩
      · rw [self, Helio.homingStart_of_drvflt h.takeIn active rfl]
        rfl
      · rw [self]
        exact Helio.homingStart_axis h.takeIn active rfl a
    · rw [t]
      rfl
    · rw [t]
      exact State.recomputeInterest_followed (State.withAu ..)
    · rw [t]
      rfl

end Sys2Proof.Machine
end

section
/-! The interest set and the filtered list (R12, R142). -/

namespace Sys2Proof.Machine

/-- R12: the zones of the candidates of the heliostats that are present and IN. -/
theorem State.mem_interestZones (s : State) (z : Nat) : z ∈ s.interestZones ↔
    z < 32 ∧ ∃ i : Fin 8, s.helios[i].cfg.present = true ∧ s.helios[i].inService = true ∧
      ∃ ap ∈ s.helios[i].cfg.candidates, s.cfg.zoneOf ap = some z := by
  rw [State.interestZones, List.mem_filter, List.mem_range, any_helio]
  simp only [Bool.and_eq_true, List.any_eq_true, beq_iff_eq, and_assoc]

theorem State.interestZones_ascending (s : State) : s.interestZones.Pairwise (· < ·) :=
  List.pairwise_lt_range.filter _

/-- R142: an item of a frame as the Peer Table holds it. -/
def planItemOf (i : FrameItem) : PlanItem := { zone := i.zone.toNat, planned := i.planned.toNat, want := i.want }

/-- R142: the first item of a frame for a zone. -/
def firstOf (items : List FrameItem) (z : Nat) : Option FrameItem := items.find? fun i => i.zone.toNat == z

theorem firstOf_eq_some {items : List FrameItem} {z : Nat} {i : FrameItem} : firstOf items z = some i ↔
    i.zone.toNat = z ∧ ∃ before after, items = before ++ i :: after ∧ ∀ b ∈ before, b.zone ≠ i.zone := by
  simp only [firstOf, List.find?_eq_some_iff_append, beq_iff_eq, Bool.not_eq_true', beq_eq_false_iff_ne]
  refine and_congr_right fun e => ?_
  subst e
  simp only [ne_eq, BitVec.toNat_inj]

/-- R142, step 3: what the items kept so far hold for a zone stands; else it is the first item of the rest, for a zone of
interest. -/
theorem itemFor_keepItems (zones : List Nat) (items : List FrameItem) (kept : List PlanItem) (z : Nat) :
    itemFor (keepItems zones items kept) z =
      (itemFor kept z).or (if z ∈ zones then (firstOf items z).map planItemOf else none) := by
  induction items generalizing kept with
  | nil => simp [keepItems, firstOf]
  | cons i rest ih =>
    have other : i.zone.toNat ≠ z → firstOf (i :: rest) z = firstOf rest z := fun n => by simp [firstOf, n]
    have first : firstOf (i :: rest) i.zone.toNat = some i := by simp [firstOf]
    have own : ∀ z, itemFor [planItemOf i] z = if i.zone.toNat = z then some (planItemOf i) else none := fun z => by
      simp [itemFor, planItemOf, List.find?_cons]
      split <;> simp_all
    by_cases taken : (zones.contains i.zone.toNat && (itemFor kept i.zone.toNat).isNone) = true
    · have e : keepItems zones (i :: rest) kept = keepItems zones rest (kept ++ [planItemOf i]) := if_pos taken
      simp only [Bool.and_eq_true, List.contains_iff_mem, Option.isNone_iff_eq_none] at taken
      rw [e, ih, itemFor_append, own]
      by_cases q : i.zone.toNat = z
      · subst q
        simp [taken, first]
      · simp [q, other q]
    · have e : keepItems zones (i :: rest) kept = keepItems zones rest kept := if_neg taken
      rw [e, ih]
      by_cases q : i.zone.toNat = z
      · subst q
        simp only [Bool.and_eq_true, List.contains_iff_mem, not_and, Option.isNone_iff_eq_none] at taken
        by_cases m : i.zone.toNat ∈ zones
        · obtain ⟨x, hx⟩ := Option.ne_none_iff_exists'.1 (taken m)
          simp [hx]
        · simp [m]
      · rw [other q]

/-- R142, step 3: at most one item is kept for a zone. -/
theorem keepItems_distinct (zones : List Nat) (items : List FrameItem) {kept : List PlanItem}
    (d : (kept.map PlanItem.zone).Nodup) : ((keepItems zones items kept).map PlanItem.zone).Nodup := by
  induction items generalizing kept with
  | nil => exact d
  | cons i rest ih =>
    rw [keepItems]
    split
    next taken =>
      refine ih ?_
      have fresh : ∀ x ∈ kept, x.zone ≠ i.zone.toNat := by simpa [itemFor] using (Bool.and_eq_true_iff.1 taken).2
      simp only [List.map_append, List.map_cons, List.map_nil]
      exact d.append (List.nodup_singleton _) (by simpa using fun x hx e => fresh x hx e)
    next => exact ih d

/-- Where a list holds at most one item for a zone, a selection of it holds that item if it is selected. -/
theorem itemFor_filter {l : List PlanItem} (p : PlanItem → Bool) (d : (l.map PlanItem.zone).Nodup) (z : Nat) :
    itemFor (l.filter p) z = (itemFor l z).filter p := by
  induction l with
  | nil => rfl
  | cons i rest ih =>
    obtain ⟨fresh, d⟩ := List.nodup_cons.1 d
    by_cases q : i.zone = z
    · subst q
      have none : itemFor rest i.zone = Option.none := by
        simpa [itemFor] using fresh
      by_cases k : p i = true
      · simp [itemFor, k, Option.filter]
      · rw [List.filter_cons_of_neg k, ih d, none]
        simp [itemFor, Option.filter, k]
    · by_cases k : p i = true
      · simpa [itemFor, k, q] using ih d
      · simpa [itemFor, k, q] using ih d

/-- R142, step 4: an item of a frame without its want flag in ISOLATED (2). -/
def shownItem (state : Byte) (i : FrameItem) : PlanItem :=
  { planItemOf i with want := i.want && state.toNat != 2 }

/-- R142: the filtered list holds for each zone of interest the first item of the frame, if it plans or wants. -/
theorem filteredList_of_shown (zones : List Nat) {state : Byte} (items : List FrameItem)
    (shown : state.toNat = 1 ∨ state.toNat = 2 ∨ state.toNat = 3) : filteredList zones state items =
      zones.filterMap fun z => ((firstOf items z).map (shownItem state)).filter PlanItem.relevant := by
  rw [filteredList, if_pos shown]
  refine List.filterMap_congr fun z hz => ?_
  have d : (((keepItems zones items []).map fun i : PlanItem => { i with want := i.want && state.toNat != 2 }).map
      PlanItem.zone).Nodup := by
    rw [List.map_map]
    exact keepItems_distinct zones items List.nodup_nil
  rw [itemFor_filter _ d, itemFor_map _ _ (by intro; rfl), itemFor_keepItems, if_pos hz]
  cases firstOf items z <;> rfl

theorem PlanItem.relevant_iff (i : PlanItem) : i.relevant = true ↔ i.planned ≠ 0 ∨ i.want = true := by
  simp [PlanItem.relevant]

/-- Settles O22. -/
theorem filteredListFollowsItsSteps : Obligations.FilteredListFollowsItsSteps := by
  refine ⟨State.mem_interestZones, State.interestZones_ascending, fun zones state items ascending => ?_⟩
  intro kept shown
  have hidden : ¬shown → kept = [] := fun no => if_neg no
  refine ⟨hidden, ?_, fun x yes => ?_⟩
  · by_cases yes : shown
    · have e : kept = _ := filteredList_of_shown zones items yes
      rw [e, List.pairwise_map, List.pairwise_filterMap]
      refine ascending.imp fun {y z} less a ha b hb => ?_
      simp only [Option.filter_eq_some_iff, Option.map_eq_some_iff] at ha hb
      obtain ⟨⟨i, hi, rfl⟩, -⟩ := ha
      obtain ⟨⟨j, hj, rfl⟩, -⟩ := hb
      have first := (firstOf_eq_some.1 hi).1
      have second := (firstOf_eq_some.1 hj).1
      subst first second
      exact less
    · rw [hidden yes]
      exact List.Pairwise.nil
  · have e : kept = _ := filteredList_of_shown zones items yes
    rw [e, List.mem_filterMap]
    simp only [Option.filter_eq_some_iff, Option.map_eq_some_iff, PlanItem.relevant_iff]
    constructor
    · rintro ⟨z, hz, ⟨i, hi, rfl⟩, r⟩
      obtain ⟨rfl, before, after, split, fresh⟩ := firstOf_eq_some.1 hi
      exact ⟨hz, r, before, i, after, split, fresh, rfl⟩
    · rintro ⟨hz, r, before, i, after, split, fresh, rfl⟩
      exact ⟨_, hz, ⟨i, firstOf_eq_some.2 ⟨rfl, before, after, split, fresh⟩, rfl⟩, r⟩

end Sys2Proof.Machine
end

section
/-! The contribution frame field by field (R200 to R204). -/

namespace Sys2Proof.Machine

/-! ## Bytes at an offset (R201) -/

/-- The bytes of a list stand in a frame one after another from an offset on. -/
def StandsAt (b : List Byte) : Nat → List Byte → Prop
  | _, [] => True
  | o, x :: rest => b.getD o 0 = x ∧ StandsAt b (o + 1) rest

@[simp] theorem standsAt_nil (b : List Byte) (o : Nat) : StandsAt b o [] ↔ True := Iff.rfl

@[simp] theorem standsAt_cons (b : List Byte) (o : Nat) (x : Byte) (rest : List Byte) :
    StandsAt b o (x :: rest) ↔ b.getD o 0 = x ∧ StandsAt b (o + 1) rest := Iff.rfl

@[simp] theorem standsAt_append (b : List Byte) (o : Nat) (l m : List Byte) :
    StandsAt b o (l ++ m) ↔ StandsAt b o l ∧ StandsAt b (o + l.length) m := by
  induction l generalizing o with
  | nil => simp
  | cons x rest ih => simp [ih, and_assoc, Nat.add_assoc, Nat.add_comm 1]

theorem standsAt_of_append (front rest : List Byte) : StandsAt (front ++ rest) front.length rest := by
  induction rest generalizing front with
  | nil => trivial
  | cons x rest ih =>
    refine ⟨by simp, ?_⟩
    have h := ih (front ++ [x])
    rwa [List.append_assoc, List.length_append] at h

theorem StandsAt.cast {b l : List Byte} {o o' : Nat} (h : StandsAt b o l) (e : o' = o) : StandsAt b o' l := e ▸ h

theorem length_flatMap_const {α : Type} (l : List α) {f : α → List Byte} {n : Nat} (h : ∀ x, (f x).length = n) :
    (l.flatMap f).length = n * l.length := by
  simp [List.length_flatMap, h, Nat.mul_comm]

/-- Entries of one length stand one after another. -/
theorem StandsAt.entry {α : Type} {b : List Byte} {o n : Nat} {l : List α} {f : α → List Byte} {k : Nat} {x : α}
    (h : StandsAt b o (l.flatMap f)) (length : ∀ x, (f x).length = n) (e : l[k]? = some x) :
    StandsAt b (o + n * k) (f x) := by
  induction l generalizing o k with
  | nil => simp at e
  | cons y rest ih =>
    simp only [List.flatMap_cons, standsAt_append, length] at h
    cases k with
    | zero =>
      obtain rfl : y = x := by simpa using e
      exact h.1
    | succ k => exact (ih h.2 e).cast (by rw [Nat.mul_succ]; omega)

theorem StandsAt.half {b : List Byte} {o n : Nat} (h : StandsAt b o (halfBytes n)) : halfAt b o = BitVec.ofNat 16 n := by
  obtain ⟨low, high, -⟩ := h
  rw [halfAt, low, high, half_halfBytes]

theorem StandsAt.signedHalf {b : List Byte} {o : Nat} {x : Int} (h : StandsAt b o (signedHalfBytes x)) :
    halfAt b o = BitVec.ofInt 16 x :=
  h.half.trans (by rw [BitVec.ofNat_toNat, BitVec.setWidth_eq])

/-- R201: a four-byte field is read back. -/
theorem word_bytes (w : BitVec 32) :
    word (BitVec.ofNat 8 (w.toNat % 65536)) (BitVec.ofNat 8 (w.toNat % 65536 / 256)) (BitVec.ofNat 8 (w.toNat / 65536))
      (BitVec.ofNat 8 (w.toNat / 65536 / 256)) = w := by
  apply BitVec.eq_of_toNat_eq
  have lt := w.isLt
  simp only [word, BitVec.toNat_append, BitVec.toNat_ofNat]
  simp only [Nat.shiftLeft_eq, Nat.mul_comm _ (2 ^ 8)]
  rw [← Nat.two_pow_add_eq_or_of_lt (Nat.mod_lt _ (by decide)), ← Nat.two_pow_add_eq_or_of_lt (Nat.mod_lt _ (by decide)),
    ← Nat.two_pow_add_eq_or_of_lt (Nat.mod_lt _ (by decide))]
  omega

theorem StandsAt.signedWord {b : List Byte} {o : Nat} {x : Int} (h : StandsAt b o (signedWordBytes x)) :
    wordAtByte b o = BitVec.ofInt 32 x := by
  obtain ⟨⟨b0, b1, -⟩, b2, b3, -⟩ := (standsAt_append ..).1 h
  simp only [halfBytes_length, Nat.add_assoc] at b2 b3
  rw [wordAtByte, b0, b1, b2, b3, word_bytes]

theorem boolByte_toNat (x : Bool) : (boolByte x).toNat = x.toNat := by cases x <;> rfl

theorem aimByte_eq (ap : Option Nat) : aimByte ap = ap.elim 255 (BitVec.ofNat 8) := by cases ap <;> rfl

/-! ## Codes (R204) -/

theorem Level.code_eq (l : Level) : l.code = [Level.none, .stow, .defocus, .hold, .standby, .track].idxOf l := by
  cases l <;> rfl

theorem Result.code_eq (r : Result) : (BitVec.ofNat 8 r.code).toNat = [Result.done, .busy, .range, .state, .kind].idxOf r := by
  cases r <;> rfl

theorem HelioFault.code_eq (f : HelioFault) :
    (BitVec.ofNat 8 f.code).toNat = [HelioFault.none, .slip, .homefail, .drive].idxOf f := by
  cases f <;> rfl

theorem Posture.code_lt (p : Posture) : p.code < 16 := by cases p <;> decide

theorem Level.code_lt (l : Level) : l.code < 16 := by cases l <;> decide

/-- R17, R204: the posture code is the first line of the table that applies. -/
theorem Helio.posture_code (h : Helio) : h.posture.code =
    if h.cfg.present = false then 0 else if h.inService = false then 1 else if h.fault ≠ .none then 2
    else if h.homed = false then 3
    else if h.az.drive = .rest ∧ h.az.position = h.az.target ∧ h.el.drive = .rest ∧ h.el.position = h.el.target then 5
    else 4 := by
  simp only [Helio.posture, Axis.settled, Bool.not_eq_true', bne_iff_ne, Bool.and_eq_true, beq_iff_eq, and_assoc]
  split_ifs <;> rfl

theorem Helio.postureByte_toNat (h : Helio) : h.postureByte.toNat = h.posture.code + 16 * h.engaged.code := by
  have p := h.posture.code_lt
  have l := h.engaged.code_lt
  rw [Helio.postureByte, BitVec.toNat_ofNat]
  omega

theorem State.faultMask_getLsbD (s : State) (i : Fin 8) : s.faultMask.getLsbD i = decide (s.helios[i].fault ≠ .none) := by
  have lt : i.val < 8 := i.isLt
  simp only [State.faultMask, BitVec.getLsbD_setWidth, BitVec.getLsbD_ofBoolListLE, lt, decide_true, Bool.true_and]
  rw [List.getD_eq_getElem _ _ (by simp)]
  simp [bne, beq_eq_decide]

/-- R84: what STOW-COMPLETE says. -/
theorem State.stowComplete_iff (s : State) : s.stowComplete = true ↔ (∃ i : Fin 8, s.helios[i].usable = true) ∧
    ∀ i : Fin 8, s.helios[i].usable = true → s.helios[i].engaged = .stow ∧ s.helios[i].posture = .onTarget := by
  rw [State.stowComplete, Bool.and_eq_true, any_helio, all_helio]
  refine and_congr_right fun _ => forall_congr' fun i => ?_
  cases s.helios[i].usable <;> simp

/-- R196, R202: the status conditions bit by bit. -/
theorem State.conditionList_eq (s : State) (run : s.running = true) : s.conditionList = [
    s.bi.busLost, s.bi.markLost, decide (s.sc.state = .isolated), s.src.sun, s.rs.receiver.isNone, s.dcu.active,
    decide (∃ i : Fin 8, s.helios[i].engaged = .stow),
    decide ((∃ i : Fin 8, s.helios[i].usable = true) ∧
      ∀ i : Fin 8, s.helios[i].usable = true → s.helios[i].engaged = .stow ∧ s.helios[i].posture = .onTarget),
    decide (∃ i : Fin 8, s.helios[i].fault ≠ .none), s.irm.clouded, s.fa.zoneSat,
    decide (∃ i : Fin 8, s.helios[i].limit = true), s.sc.por] ++ [false, false, false] := by
  have active : s.stowActive = decide (∃ i : Fin 8, s.helios[i].engaged = .stow) := by
    rw [Bool.eq_iff_iff, State.stowActive, any_helio, decide_eq_true_iff]
    simp only [beq_iff_eq]
  have complete := Bool.eq_iff_iff.2 (s.stowComplete_iff.trans (decide_eq_true_iff).symm)
  have fault : s.helioFault = decide (∃ i : Fin 8, s.helios[i].fault ≠ .none) := by
    rw [Bool.eq_iff_iff, State.helioFault, any_helio, decide_eq_true_iff]
    simp only [bne_iff_ne]
  have limit : s.limitAny = decide (∃ i : Fin 8, s.helios[i].limit = true) := by
    rw [Bool.eq_iff_iff, State.limitAny, any_helio, decide_eq_true_iff]
  rw [State.conditionList, active, complete, fault, limit, run]
  rfl

/-! ## The frame (R202) -/

theorem PlanItem.bytes_length (i : PlanItem) : i.bytes.length = 4 := rfl

theorem OutcomeRec.bytes_length (o : OutcomeRec) : o.bytes.length = 3 := rfl

/-- R203: the length of a detail record. -/
theorem Helio.detail_length (h : Helio) (i : Fin 8) : (h.detail i).length = 47 := by
  simp only [Helio.detail]
  cases h.hold <;> rfl

/-- R203: the length of a report, less its kind. -/
def ReportRequest.size : ReportRequest → Nat
  | .helio _ => 47
  | .counters => 20

theorem State.reportBytes_length (s : State) : s.reportBytes.length = 1 + s.bi.report.elim 0 ReportRequest.size := by
  simp only [State.reportBytes]
  cases s.bi.report with
  | none => rfl
  | some r =>
    cases r with
    | counters => rfl
    | helio i => exact congrArg Nat.succ (Helio.detail_length _ i)

theorem State.contributionBody_length (s : State) : s.contributionBody.length =
    20 + 4 * s.fa.carried.length + 3 * s.bi.outcomes.length + s.reportBytes.length + 1 := by
  simp only [State.contributionBody, List.length_append, List.length_cons, List.length_nil, halfBytes_length,
    List.length_map, Vector.length_toList, length_flatMap_const _ PlanItem.bytes_length,
    length_flatMap_const _ OutcomeRec.bytes_length]
  omega

theorem State.frameBytes_length (s : State) : s.frameBytes.length = s.contributionBody.length + 6 := by
  simp only [State.frameBytes, withCrc, halfBytes_length, List.length_append, List.length_cons, List.length_nil]
  omega

/-- R202: the parts of the contribution frame at their offsets. -/
theorem State.frameBytes_layout (s : State) : let b := s.frameBytes
    let e := s.fa.carried.length
    let o := s.bi.outcomes.length
    StandsAt b 0 [BitVec.ofNat 8 b.length, 4] ∧ StandsAt b 2 (halfBytes s.sc.number) ∧
    StandsAt b 4 [BitVec.ofNat 8 s.sc.state.code] ∧ StandsAt b 5 (halfBytes s.conditions.toNat) ∧
    StandsAt b 7 (halfBytes s.au.latches.toNat) ∧ StandsAt b 9 (halfBytes s.irm.m) ∧ StandsAt b 11 (halfBytes s.irm.h) ∧
    StandsAt b 13 (s.helios.toList.map Helio.postureByte) ∧ StandsAt b 21 [s.faultMask] ∧
    StandsAt b 22 [BitVec.ofNat 8 e] ∧ StandsAt b 23 (s.fa.carried.flatMap PlanItem.bytes) ∧
    StandsAt b (23 + 4 * e) [BitVec.ofNat 8 o] ∧ StandsAt b (24 + 4 * e) (s.bi.outcomes.flatMap OutcomeRec.bytes) ∧
    StandsAt b (24 + 4 * e + 3 * o) [boolByte s.bi.outcomesLost] ∧
    StandsAt b (25 + 4 * e + 3 * o) s.reportBytes := by
  intro b e o
  have h : StandsAt b 0 s.frameBytes := standsAt_of_append [] s.frameBytes
  have total : b.length = s.contributionBody.length + 6 := s.frameBytes_length
  rw [total]
  clear_value b
  rw [State.frameBytes, withCrc, standsAt_append, standsAt_append, standsAt_append] at h
  obtain ⟨⟨⟨head, number⟩, body⟩, -⟩ := h
  rw [State.contributionBody, ← List.singleton_append (l := List.flatMap PlanItem.bytes _),
    ← List.singleton_append (l := List.flatMap OutcomeRec.bytes _)] at body
  simp only [List.append_assoc, standsAt_append, List.length_append, List.length_cons, List.length_nil, halfBytes_length,
    List.length_map, Vector.length_toList, length_flatMap_const _ PlanItem.bytes_length,
    length_flatMap_const _ OutcomeRec.bytes_length] at body number
  obtain ⟨state, conditions, latches, m, h, postures, mask, count, items, queued, outcomes, lost, report⟩ := body
  exact ⟨head, number, state, conditions, latches, m, h, postures, mask, count, items, queued.cast (by omega),
    outcomes.cast (by omega), lost.cast (by omega), report.cast (by omega)⟩

/-- R203: the parts of a detail record at their offsets. -/
theorem Helio.detail_layout {b : List Byte} {r : Nat} {h : Helio} {i : Fin 8} (at_r : StandsAt b r (h.detail i)) :
    StandsAt b r [BitVec.ofNat 8 i.val, boolByte h.inService, boolByte h.homed, BitVec.ofNat 8 h.fault.code, h.postureByte,
      aimByte h.assignment, aimByte h.deferred] ∧
    StandsAt b (r + 7) (halfBytes h.p) ∧ StandsAt b (r + 9) (halfBytes h.countedP) ∧ StandsAt b (r + 11) (halfBytes h.c) ∧
    StandsAt b (r + 13) (halfBytes h.lastAz) ∧ StandsAt b (r + 15) (signedHalfBytes h.lastEl) ∧
    StandsAt b (r + 17) (signedHalfBytes h.dAz) ∧ StandsAt b (r + 19) (signedHalfBytes h.dEl) ∧
    StandsAt b (r + 21) [BitVec.ofNat 8 (h.limit.toNat + 2 * h.geom.toNat)] ∧
    StandsAt b (r + 22) (signedWordBytes h.az.position) ∧ StandsAt b (r + 26) (signedWordBytes h.az.target) ∧
    StandsAt b (r + 30) (signedWordBytes h.el.position) ∧ StandsAt b (r + 34) (signedWordBytes h.el.target) ∧
    StandsAt b (r + 38) [boolByte h.hold.isSome] ∧ StandsAt b (r + 39) (signedWordBytes (h.hold.elim 0 Steps.az)) ∧
    StandsAt b (r + 43) (signedWordBytes (h.hold.elim 0 Steps.el)) := by
  have signedHalf : ∀ x, (signedHalfBytes x).length = 2 := fun _ => rfl
  have signedWord : ∀ x, (signedWordBytes x).length = 4 := fun _ => rfl
  cases e : h.hold
  all_goals
    simp only [Helio.detail, e, List.append_assoc, standsAt_append, standsAt_cons b (r + _) (boolByte _), List.length_cons,
      List.length_nil, halfBytes_length, signedHalf, signedWord, Nat.add_assoc, Nat.reduceAdd] at at_r
    simpa only [standsAt_cons b (r + _), standsAt_nil, and_true, and_assoc, Option.isSome, Option.elim] using at_r

theorem StandsAt.take_two {b : List Byte} {x y : Byte} (h : StandsAt b 0 [x, y]) (n : 2 ≤ b.length) : b.take 2 = [x, y] := by
  obtain ⟨first, second, -⟩ := h
  match b, n with
  | p :: q :: rest, _ => exact congrArg₂ (fun p q => [p, q]) first second

/-- R197, R200: a word of sixteen flags is read back. -/
theorem StandsAt.bits {b : List Byte} {o : Nat} {w : BitVec 16} (h : StandsAt b o (halfBytes w.toNat)) : halfAt b o = w := by
  rw [h.half, BitVec.ofNat_toNat, BitVec.setWidth_eq]

/-- Flags of an absent tail read as false. -/
theorem getD_append_false (l : List Bool) (n k : Nat) : (l ++ List.replicate n false).getD k false = l.getD k false := by
  by_cases h : k < l.length
  · rw [List.getD_append _ _ _ _ h]
  · have le := Nat.le_of_not_lt h
    rw [List.getD_append_right _ _ _ _ le, List.getD_eq_default _ _ le]
    simp

/-- R202: the posture bytes stand in the order of the heliostats. -/
theorem StandsAt.postures {b : List Byte} {o : Nat} {v : Vector Helio 8}
    (h : StandsAt b o (v.toList.map Helio.postureByte)) (i : Fin 8) : b.getD (o + i) 0 = v[i].postureByte := by
  rw [List.map_eq_flatMap] at h
  have e := h.entry (k := i) (x := v[i]) (n := 1) (fun _ => rfl) (by simp)
  rw [Nat.one_mul] at e
  exact e.1

/-- R202: a contribution entry is read back. -/
theorem StandsAt.planItem {b : List Byte} {o : Nat} {x : PlanItem} (h : StandsAt b o x.bytes) :
    b.getD o 0 = BitVec.ofNat 8 x.zone ∧ halfAt b (o + 1) = BitVec.ofNat 16 x.planned ∧
      (b.getD (o + 3) 0).toNat = x.want.toNat := by
  obtain ⟨zone, rest⟩ := h
  obtain ⟨planned, want, -⟩ := (standsAt_append ..).1 rest
  exact ⟨zone, planned.half, (congrArg BitVec.toNat want).trans (boolByte_toNat _)⟩

/-- R202: an outcome is read back. -/
theorem StandsAt.outcome {b : List Byte} {o : Nat} {x : OutcomeRec} (h : StandsAt b o x.bytes) :
    b.getD o 0 = x.kind ∧ b.getD (o + 1) 0 = x.heliostat ∧
      (b.getD (o + 2) 0).toNat = [Result.done, .busy, .range, .state, .kind].idxOf x.result := by
  obtain ⟨kind, heliostat, result, -⟩ := h
  exact ⟨kind, heliostat, (congrArg BitVec.toNat result).trans (Result.code_eq _)⟩

/-- R108: the counters of a report are read back. -/
theorem StandsAt.counters {b : List Byte} {o : Nat} {c : Counters} (h : StandsAt b o c.block) (k : Fin 10) :
    halfAt b (o + 2 * k) = BitVec.ofNat 16 ([c.crc, c.framing, c.length, c.slot, c.kind, c.collisions, c.resyncs, c.aborts,
      c.refused, c.indexResyncs].getD k 0) := by
  refine (h.entry halfBytes_length ?_).half
  rw [List.getD_eq_getElem _ _ k.isLt, List.getElem?_eq_getElem]

/-- R95, R162, R173: the Flux Allocator changes neither the Bus Interface, the station, the IRM nor whether it runs. -/
theorem State.supplyPlan_others (s : State) : s.supplyPlan.bi = s.bi ∧ s.supplyPlan.sc = s.sc ∧ s.supplyPlan.irm = s.irm := by
  simp only [State.supplyPlan]
  split <;> exact ⟨rfl, rfl, rfl⟩

theorem State.willBuild_sends {s : State} (h : s.willBuild = true) :
    s.running = true ∧ s.sc.state.code = 1 + [StationState.operating, .isolated, .night].idxOf s.sc.state := by
  simp only [State.willBuild, Bool.and_eq_true, State.frameAllowed] at h
  obtain ⟨⟨⟨⟨⟨⟨run, allowed⟩, -⟩, -⟩, -⟩, -⟩, -⟩ := h
  refine ⟨run, ?_⟩
  cases e : s.sc.state <;> simp only [e, Bool.false_eq_true] at allowed <;> rfl

/-- Settles O36: the frame built is the bytes of the state that the Flux Allocator leaves, before the marks. -/
theorem frameCarriesItsFields : Obligations.FrameCarriesItsFields := by
  intro s will
  obtain ⟨run, code⟩ := State.willBuild_sends will
  refine ⟨s.buildFrame, congrArg _ (if_pos will), ?_⟩
  obtain ⟨hb, hs, hi⟩ := s.supplyPlan_others
  obtain ⟨u, hu⟩ : ∃ u, u = s.change State.supplyPlan := ⟨_, rfl⟩
  have bi : u.bi = s.bi := by rw [hu, State.change_bi, hb]
  have sc : u.sc = s.sc := by rw [hu, State.change_sc, hs]
  have irm : u.irm = s.irm := by rw [hu, State.change_irm, hi]
  have running : u.running = true := by rw [← run]; simp only [State.running, State.inReset, sc]
  have t : s.buildFrame = u.markCarried.storeFrame u.frameBytes := by rw [hu]; rfl
  have report := u.reportBytes_length
  have length := u.frameBytes_length.trans (congrArg (· + 6) u.contributionBody_length)
  have layout := u.frameBytes_layout
  have list := u.conditionList_eq running
  obtain ⟨head, number, state, conditions, latches, m, h, postures, mask, count, items, queued, outcomes, lost, tail⟩ := layout
  rw [t]
  generalize u.frameBytes = b at *
  dsimp only [State.storeFrame, State.markCarried]
  rw [← bi, ← irm, ← sc]
  rw [← sc] at code
  refine ⟨?_, head.take_two (by omega), number.half, ?_, fun k => ?_, latches.bits, m.half, h.half, fun i => ⟨?_, ?_, ?_⟩,
    count.1, fun k x hx => ?_, queued.1, fun k x hx => ?_, ?_, fun none => ?_, fun counters => ?_, fun i helio => ?_⟩
  · rw [length, report]
    have size : ∀ r : Option ReportRequest, r.elim 0 ReportRequest.size = match r with
        | none => 0
        | some (.helio _) => 47
        | some .counters => 20
      | none | some (.helio _) | some .counters => rfl
    refine Eq.trans ?_ (congrArg (fun n => 26 + 4 * u.fa.carried.length + 3 * u.bi.outcomes.length + n + 2) (size _))
    omega
  · rw [state.1, ← code]
    cases u.sc.state <;> rfl
  · rw [conditions.bits]
    refine BitVec.getLsbD_ofBoolListLE.trans ?_
    rw [list]
    exact getD_append_false _ 3 k
  · rw [postures.postures i, Helio.postureByte_toNat, ← Level.code_eq]
    have := u.helios[i].posture.code_lt
    omega
  · rw [postures.postures i, Helio.postureByte_toNat, ← Helio.posture_code]
    have := u.helios[i].posture.code_lt
    omega
  · rw [mask.1]
    exact u.faultMask_getLsbD i
  · have entry := (items.entry PlanItem.bytes_length hx).planItem
    rwa [Nat.add_right_comm 23 _ 1, Nat.add_right_comm 23 _ 3] at entry
  · have entry := (outcomes.entry OutcomeRec.bytes_length hx).outcome
    rwa [Nat.add_right_comm _ (3 * k) 1, Nat.add_right_comm 24 _ 1, Nat.add_right_comm _ (3 * k) 2,
      Nat.add_right_comm 24 _ 2] at entry
  · rw [lost.1, boolByte_toNat]
  · rw [State.reportBytes, none] at tail
    rw [tail.1]
    rfl
  · rw [State.reportBytes, counters] at tail
    obtain ⟨kind, block⟩ := tail
    exact ⟨congrArg BitVec.toNat kind, fun k => (block.cast (by omega)).counters k⟩
  · rw [State.reportBytes, helio] at tail
    obtain ⟨kind, detail⟩ := tail
    obtain ⟨flags, p, countedP, c', lastAz, lastEl, dAz, dEl, limits, az, azTarget, el, elTarget, held, holdAz, holdEl⟩ :=
      Helio.detail_layout (detail.cast (o' := 26 + 4 * u.fa.carried.length + 3 * u.bi.outcomes.length) (by omega))
    obtain ⟨index, inService, homed, fault, posture, assignment, deferred, -⟩ := flags
    refine ⟨congrArg BitVec.toNat kind, ?_, ?_, ?_, ?_, ?_, ?_, ?_, p.half, countedP.half, c'.half, lastAz.half,
      lastEl.signedHalf, dAz.signedHalf, dEl.signedHalf, ?_, az.signedWord, azTarget.signedWord, el.signedWord,
      elTarget.signedWord, ?_, holdAz.signedWord, holdEl.signedWord⟩
    · rw [index, BitVec.toNat_ofNat]
      omega
    · exact (congrArg BitVec.toNat inService).trans (boolByte_toNat _)
    · exact (congrArg BitVec.toNat homed).trans (boolByte_toNat _)
    · exact (congrArg BitVec.toNat fault).trans (HelioFault.code_eq _)
    · rw [postures.postures i]
      exact congrArg BitVec.toNat posture
    · exact assignment.trans (aimByte_eq _)
    · exact deferred.trans (aimByte_eq _)
    · rw [limits.1]
      cases u.helios[i].limit <;> cases u.helios[i].geom <;> rfl
    · exact (congrArg BitVec.toNat held.1).trans (boolByte_toNat _)

end Sys2Proof.Machine
end

section
/-! The end of a load that passes (R64, R184). -/

namespace Sys2Proof.Machine

/-! ## What a heliostat takes from the image (R1, R4 to R6, R64) -/

/-- R64: an axis outside its soft limits is sent to the nearer one. -/
theorem Axis.limitTarget_eq (a : Axis) : a.limitTarget =
    if a.position < a.prm.softMin then a.writeTarget a.prm.softMin
    else if a.prm.softMax < a.position then a.writeTarget a.prm.softMax else a := by
  simp only [Axis.limitTarget, Axis.soft, clampTo]
  split_ifs with below above
  any_goals rfl
  all_goals omega

@[simp] theorem Axis.limitTarget_prm (a : Axis) : a.limitTarget.prm = a.prm := by
  simp only [Axis.limitTarget]
  split <;> simp

@[simp] theorem Axis.limitTarget_takeUp (a : Axis) : a.limitTarget.takeUp = a.takeUp := by
  simp only [Axis.limitTarget]
  split <;> simp

/-- R64: an axis at the end of a load, sent to the nearer soft limit where its heliostat stays homed. -/
def Axis.atLoad (a : Axis) (prm : AxisParams) (present homed : Bool) : Axis :=
  if homed then (a.load prm present).limitTarget else a.load prm present

theorem Axis.atLoad_prm (a : Axis) (prm : AxisParams) (p m : Bool) : (a.atLoad prm p m).prm = prm := by
  cases m
  · rfl
  · exact Axis.limitTarget_prm _

theorem Axis.atLoad_takeUp (a : Axis) (prm : AxisParams) (p m : Bool) :
    (a.atLoad prm p m).takeUp = if p = true then min a.takeUp prm.backlash else a.takeUp := by
  cases m
  · rfl
  · exact Axis.limitTarget_takeUp _

theorem Axis.atLoad_eq (a : Axis) (p : AxisParams) (present homed : Bool) : a.atLoad p present homed =
    let y : Axis := { a with prm := p, takeUp := if present = true then min a.takeUp p.backlash else a.takeUp }
    if homed = true ∧ a.position < p.softMin then y.writeTarget p.softMin
    else if homed = true ∧ p.softMax < a.position then y.writeTarget p.softMax else y := by
  cases homed
  · simp [Axis.atLoad, Axis.load]
  · simp [Axis.atLoad, Axis.load, Axis.limitTarget_eq]

/-- R64: a heliostat at the end of a load, field by field. -/
theorem Helio.load_eq (h : Helio) (r : HelioImage) :
    let both := h.cfg.present && r.cfg.present
    let homed := h.homed && r.cfg.present && r.cfg.initialIn
    h.load r = { h with
      cfg := r.cfg, inService := r.cfg.initialIn, homed := homed, fault := if both then h.fault else .none
      dAz := if both then h.dAz else r.dAz, dEl := if both then h.dEl else r.dEl
      az := h.az.atLoad r.az r.cfg.present homed, el := h.el.atLoad r.el r.cfg.present homed } := by
  simp only [Helio.load, Axis.atLoad]
  split <;> simp_all

/-! ## Levels and homing starts at the end of a load (R5, R184) -/

/-- R184 steps 4 and 5: a heliostat engages, and where it is usable and not homed it starts its homing. -/
def Helio.engageAtLoad (h : Helio) (src : Sources) : Helio :=
  let e := h.reengage src true
  if e.startsHoming then e.homingStart.reengage src true else e

@[simp] theorem Helio.reengage_usable (h : Helio) (src : Sources) (l : Bool) : (h.reengage src l).usable = h.usable := by
  simp [Helio.usable]

@[simp] theorem Helio.reengage_startsHoming (h : Helio) (src : Sources) (l : Bool) :
    (h.reengage src l).startsHoming = h.startsHoming := by
  simp [Helio.startsHoming]

theorem Helio.startsHoming_iff (h : Helio) : h.startsHoming = true ↔ h.usable = true ∧ h.homed = false := by
  simp [Helio.startsHoming]

theorem Helio.engageAtLoad_of_rests {h : Helio} (no : h.startsHoming = false) (src : Sources) :
    h.engageAtLoad src = h.reengage src true := by
  simp [Helio.engageAtLoad, no]

/-- R67: a heliostat that starts its homing is masked before and after, so its homing start is the last word. -/
theorem Helio.engageAtLoad_of_starts {h : Helio} (yes : h.startsHoming = true) (src : Sources) :
    h.engageAtLoad src = (h.reengage src true).homingStart := by
  have governed : h.governing src true = .none := by
    simp [Helio.governing, Helio.masked_of_not_homed (h.startsHoming_iff.1 yes).2]
  have e : h.engageAtLoad src = (h.reengage src true).homingStart.reengage src true := by simp [Helio.engageAtLoad, yes]
  rw [e]
  refine Helio.reengage_of_masked (Helio.homingStart_masked _ _) ?_ src
  rw [Helio.homingStart_engaged, Helio.reengage_engaged, governed]

/-- R54: what a homing start leaves as it is. -/
theorem Helio.homingStart_frame (h : Helio) : h.homingStart.cfg = h.cfg ∧ h.homingStart.inService = h.inService ∧
    h.homingStart.az.prm = h.az.prm ∧ h.homingStart.el.prm = h.el.prm := by
  simp only [Helio.homingStart, Helio.detect]
  split_ifs <;> simp [Axis.halt]

theorem Axis.stopNow_of_stopped {a : Axis} (p : a.period = 0) : a.stopNow = a := if_pos p

/-- R55: a homing start of a heliostat whose generators are stopped leaves the take-up counts. -/
theorem Helio.homingStart_takeUp {h : Helio} (e : h.drvflt = false) (x : AxisId) (p : (h.axis x).period = 0) :
    (h.homingStart.axis x).takeUp = (h.axis x).takeUp := by
  rw [Helio.homingStart_of_quiet h e]
  cases x
  all_goals
    simp only [Helio.axis, homingBegun] at p ⊢
    simp [Axis.stopNow_of_stopped p]

/-- R70 to R72: a recomputed level writes targets alone to the axes. -/
theorem Helio.reengage_axis (h : Helio) (src : Sources) (l : Bool) (x : AxisId) :
    ((h.reengage src l).axis x).prm = (h.axis x).prm ∧ ((h.reengage src l).axis x).takeUp = (h.axis x).takeUp := by
  obtain ⟨-, e⟩ | ⟨-, e⟩ := h.reengage_cases src l
  · rw [e]
    exact ⟨rfl, rfl⟩
  · rw [e]
    cases x
    all_goals
      simp only [Helio.axis, Helio.enter, Helio.writeTargets]
      repeat' split
    all_goals simp

/-- R67, R69: a masked heliostat keeps its axes. -/
theorem Helio.reengage_masked_axis {h : Helio} {l : Bool} (m : h.masked l = true) (src : Sources) (x : AxisId) :
    (h.reengage src l).axis x = h.axis x := by
  rw [Helio.reengage_masked h src l m]
  cases x
  all_goals
    simp only [Helio.axis]
    split <;> rfl

section AtLoad

variable (h : Helio) (src : Sources)

/-- R184: what engaging and homing leave of the values of the image. -/
theorem Helio.engageAtLoad_frame : (h.engageAtLoad src).cfg = h.cfg ∧ (h.engageAtLoad src).inService = h.inService ∧
    (h.engageAtLoad src).az.prm = h.az.prm ∧ (h.engageAtLoad src).el.prm = h.el.prm := by
  have az := (h.reengage_axis src true .az).1
  have el := (h.reengage_axis src true .el).1
  cases e : h.startsHoming
  · rw [Helio.engageAtLoad_of_rests e]
    exact ⟨h.reengage_cfg .., h.reengage_inService .., az, el⟩
  · rw [Helio.engageAtLoad_of_starts e]
    obtain ⟨cfg, inService, azPrm, elPrm⟩ := (h.reengage src true).homingStart_frame
    exact ⟨cfg.trans (h.reengage_cfg ..), inService.trans (h.reengage_inService ..), azPrm.trans az, elPrm.trans el⟩

/-- R5: a usable heliostat is homed or in the first phase of its homing. -/
theorem Helio.engageAtLoad_homing (usable : (h.engageAtLoad src).usable = true) :
    (h.engageAtLoad src).homed = true ∨ (h.engageAtLoad src).homing = some .el := by
  cases e : h.startsHoming
  · rw [Helio.engageAtLoad_of_rests e] at usable ⊢
    rw [Helio.reengage_usable] at usable
    exact .inl (by simpa [Helio.startsHoming, usable] using e)
  · rw [Helio.engageAtLoad_of_starts e] at usable ⊢
    have fault : (h.reengage src true).fault = .none := by
      have := (h.startsHoming_iff.1 e).1
      simp_all [Helio.usable]
    cases d : (h.reengage src true).drvflt
    · rw [Helio.homingStart_of_quiet _ d]
      exact .inr rfl
    · rw [Helio.homingStart_of_drvflt _ d fault] at usable
      simp [Helio.usable] at usable

/-- R68: the level it is left with is the one that governs. -/
theorem Helio.engageAtLoad_engaged : (h.engageAtLoad src).engaged = (h.engageAtLoad src).governing src true := by
  have governs : ∀ x : Helio, (x.reengage src true).engaged = (x.reengage src true).governing src true := fun x => by
    rw [Helio.reengage_engaged]
    exact (Helio.governing_congr src true (by simp) (by simp) (by simp) (by simp) (by simp)).symm
  simp only [Helio.engageAtLoad]
  split <;> exact governs _

/-- R46, R64: take-up counts stand while generators are stopped and no driver fault stands. -/
theorem Helio.engageAtLoad_takeUp (quiet : h.drvflt = false) (x : AxisId) (p : h.homed = false → (h.axis x).period = 0) :
    ((h.engageAtLoad src).axis x).takeUp = (h.axis x).takeUp := by
  cases e : h.startsHoming
  · rw [Helio.engageAtLoad_of_rests e]
    exact (h.reengage_axis src true x).2
  · have n := (h.startsHoming_iff.1 e).2
    have same := Helio.reengage_masked_axis (Helio.masked_of_not_homed n true) src x
    rw [Helio.engageAtLoad_of_starts e, Helio.homingStart_takeUp (by simpa using quiet) x (by rw [same]; exact p n), same]

end AtLoad

/-! ## The station at the end of a load (R184) -/

/-- R5, R184 step 5: the homing starts change the heliostats alone, each at most once. -/
theorem State.homings_of_list (l : List (Fin 8)) (d : l.Nodup) (s : State) : ∃ v : Vector Helio 8,
    l.foldl (fun t i => if t.helios[i].startsHoming then t.updateHelio i Helio.homingStart else t) s = { s with helios := v } ∧
      ∀ j : Fin 8, v[j] = if j ∈ l ∧ s.helios[j].startsHoming = true then
        s.helios[j].homingStart.reengage s.src s.sc.state.loaded else s.helios[j] := by
  induction l generalizing s with
  | nil => exact ⟨s.helios, rfl, by simp⟩
  | cons i rest ih =>
    obtain ⟨fresh, d⟩ := List.nodup_cons.1 d
    rw [List.foldl_cons]
    by_cases e : s.helios[i].startsHoming = true
    · obtain ⟨v, hv, each⟩ := ih d (s.updateHelio i Helio.homingStart)
      rw [if_pos e]
      refine ⟨v, hv, fun j => (each j).trans ?_⟩
      by_cases q : j = i
      · subst q
        rw [if_neg (fun h => fresh h.1), s.updateHelio_self, if_pos ⟨List.mem_cons_self, e⟩]
      · rw [s.updateHelio_other i j _ q]
        simp only [List.mem_cons, q, false_or]
        rfl
    · obtain ⟨v, hv, each⟩ := ih d s
      rw [if_neg e]
      refine ⟨v, hv, fun j => (each j).trans ?_⟩
      by_cases q : j = i
      · subst q
        rw [if_neg (fun h => e h.2), if_neg (fun h => e h.2)]
      · simp only [List.mem_cons, q, false_or]

theorem State.startHomings_eq (s : State) : ∃ v : Vector Helio 8, s.startHomings = { s with helios := v } ∧
    ∀ j : Fin 8, v[j] = if s.helios[j].startsHoming = true then
      s.helios[j].homingStart.reengage s.src s.sc.state.loaded else s.helios[j] := by
  obtain ⟨v, hv, each⟩ := State.homings_of_list (List.finRange 8) (List.nodup_finRange 8) s
  exact ⟨v, hv, by simpa using each⟩

/-- R12: the interest set is read from the configuration and the heliostats' records and service. -/
theorem State.interestZones_congr {s t : State} (cfg : t.cfg = s.cfg)
    (each : ∀ i : Fin 8, t.helios[i].cfg = s.helios[i].cfg ∧ t.helios[i].inService = s.helios[i].inService) :
    t.interestZones = s.interestZones := by
  refine List.filter_congr fun z _ => ?_
  rw [cfg]
  exact any_helio_congr fun i => by rw [(each i).1, (each i).2]

theorem State.latchAtLoad_conditions (s : State) : s.latchAtLoad.conditions = s.conditions :=
  State.conditions_congr rfl rfl rfl rfl rfl rfl rfl rfl rfl rfl rfl

/-- R184: a load that passes, field by field. -/
theorem State.passLoad_eq (s : State) (v : ImageValues) : let t := s.passLoad v
    let u := s.takeImage v
    (∀ i : Fin 8, t.helios[i] = (s.helios[i].load v.records[i]).engageAtLoad t.src) ∧
    t.src = { s.src with sun := true, standbyRx := true, stowLine := s.src.stowLine || s.stowin } ∧
    t.sc = { s.sc with state := .syncing, listen := false, isoCount := 0 } ∧
    t.au = { s.au with enable := v.enable, latches := t.conditions &&& v.enable } ∧
    t = { s with
      sc := t.sc, cfg := v.cfg, src := t.src, helios := t.helios, interest := u.interest, pt := u.pt, fa := u.fa
      irm := .start v.cfg, au := t.au } := by
  intro t u
  obtain ⟨w, hw, each⟩ := ((s.takeImage v).takeLoadSources.beginSyncing).startHomings_eq
  have ht : t = ({ u.takeLoadSources.beginSyncing with helios := w } : State).latchAtLoad := congrArg State.latchAtLoad hw
  rw [ht]
  refine ⟨fun i => ?_, rfl, rfl, ?_, rfl⟩
  · refine (each i).trans ?_
    simp only [State.beginSyncing, State.reengageAll, State.takeLoadSources, State.takeImage, State.recomputeInterest,
      Fin.getElem_fin, getElem_mapEach]
    rfl
  · rw [State.latchAtLoad_conditions]
    rfl

/-- R2: an image that passes names no more than eight zones, whatever is in service. -/
theorem judgeImage_zones {number : Nat} {image : List Byte} {v : ImageValues} (h : judgeImage number image = some v) {t : State}
    (cfg : t.cfg = v.cfg) (each : ∀ i : Fin 8, t.helios[i].cfg = v.records[i].cfg) : t.interestZones.length ≤ 8 := by
  obtain ⟨-, -, fits, e⟩ := judgeImage_some h
  simp only [contentFits, Bool.and_eq_true, ← e] at fits
  refine le_trans (List.Sublist.length_le (List.monotone_filter_right _ fun z hz => ?_)) (of_decide_eq_true fits.2)
  obtain ⟨i, hi⟩ := (any_helio ..).1 hz
  rw [each, cfg, Bool.and_eq_true, Bool.and_eq_true] at hi
  obtain ⟨⟨present, -⟩, candidate⟩ := hi
  exact List.any_eq_true.2 ⟨v.records[i], by simp, Bool.and_eq_true_iff.2 ⟨present, candidate⟩⟩

/-- R13: the residue records after the image is taken. -/
theorem State.takeImage_residue (s : State) (v : ImageValues) :
    (s.takeImage v).pt.residue = (s.takeImage v).interest.map (followedResidue s.pt.residue) :=
  PeerTable.follow_residue _ _

theorem followPlan_nil (zones : List Nat) :
    followPlan [] zones = zones.map fun z => { zone := z, planned := 0, want := false } := by
  simp [followPlan, itemFor]

/-- R54, R58: a homing start under DRVFLT is a fault at once. -/
theorem Helio.homingStart_faulted {h : Helio} (e : h.drvflt = true) (f : h.fault = .none) (n : h.homed = false) :
    h.homingStart = { h with
      fault := .drive, deferred := none, placementP := 0, homing := none, az := h.homingStart.az, el := h.homingStart.el } := by
  have start := h.homingStart_of_drvflt e f
  generalize h.homingStart = x at start
  subst start
  simp only [homingBegun, n]

theorem Helio.engageAtLoad_of_unengaged {h : Helio} (yes : h.startsHoming = true) (e : h.engaged = .none) (src : Sources) :
    h.engageAtLoad src = h.homingStart := by
  rw [Helio.engageAtLoad_of_starts yes,
    Helio.reengage_of_masked (Helio.masked_of_not_homed (h.startsHoming_iff.1 yes).2 _) e]

theorem State.endLoad_of_refused {s : State} {image : List Byte} (h : judgeImage s.sc.number image = none) :
    s.endLoad image = { s with
      sc := { s.sc with state := .configFault }, bi := { s.bi with timerInstant := s.bi.timerInstant.afterLoad } } := by
  simp only [State.endLoad, h]

theorem State.endLoad_of_passed {s : State} {image : List Byte} {v : ImageValues}
    (h : judgeImage s.sc.number image = some v) :
    s.endLoad image =
      ({ s with bi := { s.bi with timerInstant := s.bi.timerInstant.afterLoad } } : State).passLoad v := by
  simp only [State.endLoad, h]

theorem TimerInstant.afterLoad_eq (i : TimerInstant) : i.afterLoad = if i = .due then .due else .plain := by
  cases i <;> rfl

/-- R64, R184: what a heliostat takes of its record, and keeps of its take-up counts, through a load that passes. -/
theorem Helio.load_engageAtLoad_frame (h : Helio) (r : HelioImage) (src : Sources) :
    let x := (h.load r).engageAtLoad src
    x.cfg = r.cfg ∧ x.inService = r.cfg.initialIn ∧ x.az.prm = r.az ∧ x.el.prm = r.el := by
  obtain ⟨cfg, inService, az, el⟩ := (h.load r).engageAtLoad_frame src
  rw [h.load_eq r] at cfg inService az el ⊢
  exact ⟨cfg, inService, az.trans (Axis.atLoad_prm ..), el.trans (Axis.atLoad_prm ..)⟩

theorem Helio.load_engageAtLoad_takeUp (h : Helio) (r : HelioImage) (src : Sources) (a : AxisId)
    (stopped : (h.axis a).period = 0) (quiet : h.drvflt = false) :
    let x := (h.load r).engageAtLoad src
    (x.axis a).takeUp = if r.cfg.present = true then min (h.axis a).takeUp (x.axis a).prm.backlash
      else (h.axis a).takeUp := by
  intro x
  obtain ⟨-, -, az, el⟩ := h.load_engageAtLoad_frame r src
  have kept : (x.axis a).takeUp = ((h.load r).axis a).takeUp := by
    refine Helio.engageAtLoad_takeUp _ _ (by rw [h.load_eq r]; exact quiet) a ?_
    rw [h.load_eq r]
    intro rests
    have rests : (h.homed && r.cfg.present && r.cfg.initialIn) = false := rests
    cases a
    all_goals
      simp only [Helio.axis, Axis.atLoad, rests]
      exact stopped
  rw [kept, h.load_eq r]
  cases a
  · exact (Axis.atLoad_takeUp ..).trans (by rw [show (x.axis .az).prm = r.az from az]; rfl)
  · exact (Axis.atLoad_takeUp ..).trans (by rw [show (x.axis .el).prm = r.el from el]; rfl)

/-- Settles O54: what `passLoad` leaves in each field, and what `Helio.load` and `Helio.engageAtLoad` leave of a heliostat. -/
theorem loadEndsInSyncingOrFault : Obligations.LoadEndsInSyncingOrFault := by
  intro s w image loading free loaded
  have ends : exec (.loadEnd w image) s = .next ((s.strapsAt w).endLoad image) := congrArg _ (if_pos ⟨loading, free⟩)
  have bi : { s.bi with timerInstant := s.bi.timerInstant.afterLoad } = loaded := by
    simp only [loaded, TimerInstant.afterLoad_eq]
  rw [ends]
  refine ⟨fun refused => ?_, fun v passed => ?_⟩
  · rw [State.endLoad_of_refused (s := s.strapsAt w) refused, ← bi]
    rfl
  · let q : State := { s with straps := w, bi := loaded }
    have passes : (s.strapsAt w).endLoad image = q.passLoad v := by
      rw [State.endLoad_of_passed (s := s.strapsAt w) passed]
      simp only [q, ← bi]
      rfl
    obtain ⟨each, src, sc, au, whole⟩ := q.passLoad_eq v
    obtain ⟨low, high, -⟩ := judgeImage_some passed
    rw [passes]
    generalize q.passLoad v = t at each src sc au whole
    have frame : ∀ i : Fin 8, t.helios[i].cfg = v.records[i].cfg ∧ t.helios[i].inService = v.records[i].cfg.initialIn ∧
        t.helios[i].az.prm = v.records[i].az ∧ t.helios[i].el.prm = v.records[i].el := fun i => by
      rw [each i]
      exact Helio.load_engageAtLoad_frame ..
    have cfg : t.cfg = v.cfg := congrArg State.cfg whole
    have interest : t.interest = t.interestZones := by
      refine (congrArg State.interest whole).trans (Eq.symm (State.interestZones_congr cfg fun i => ?_))
      obtain ⟨record, inService, -⟩ := frame i
      simp only [Fin.getElem_fin, getElem_mapEach, Helio.load_eq]
      exact ⟨record, inService⟩
    refine ⟨t, rfl, sc, by rw [sc]; exact low, by rw [sc]; exact high, cfg, src, interest, ?_, ?_, au, fun i => ?_, fun i => ?_,
      fun i none => ?_, ?_, ?_, ?_, ?_⟩
    · rw [interest]
      exact judgeImage_zones passed cfg fun i => (frame i).1
    · exact congrArg State.irm whole
    · rw [each i, sc]
      exact Helio.engageAtLoad_engaged ..
    · obtain ⟨record, inService, az, el⟩ := frame i
      refine ⟨record, inService, az, el, ?_, fun a => ?_⟩
      · rw [each i]
        exact Helio.engageAtLoad_homing _ _
      · rw [each i]
        exact Helio.load_engageAtLoad_takeUp _ _ _ a
    · intro h r both homed axisOf u
      have load : u = h.load r := by
        rw [h.load_eq r, Axis.atLoad_eq, Axis.atLoad_eq]
      have still : u.homed = homed := rfl
      have fault : u.usable = true → u.fault = .none := by simp [Helio.usable]
      have value : t.helios[i] = u.engageAtLoad t.src := by rw [load]; exact each i
      have unengaged : u.engaged = .none := none
      have drvflt : u.drvflt = h.drvflt := rfl
      clear_value u
      rw [value, ← drvflt, ← still]
      refine ⟨fun usable rests quiet => ?_, fun usable rests active => ?_, fun settled => ?_⟩
      · rw [Helio.engageAtLoad_of_unengaged (u.startsHoming_iff.2 ⟨usable, rests⟩) unengaged,
          Helio.homingStart_of_quiet u quiet]
      · rw [Helio.engageAtLoad_of_unengaged (u.startsHoming_iff.2 ⟨usable, rests⟩) unengaged]
        refine ⟨Helio.homingStart_faulted active (fault usable) rests, fun a => ?_⟩
        obtain ⟨drive, period, target, -⟩ := u.homingStart_axis active (fault usable) a
        exact ⟨drive, period, target⟩
      · refine Helio.engageAtLoad_of_rests ?_ _
        obtain no | yes := settled
        · simp [Helio.startsHoming, no]
        · simp [Helio.startsHoming, yes]
    · rw [congrArg State.pt whole, congrArg State.interest whole]
      refine (congrArg (List.map Residue.zone) (q.takeImage_residue v)).trans ?_
      rw [List.map_map]
      exact (List.map_congr_left fun z _ => followedResidue_zone _ z).trans (List.map_id _)
    · intro empty x hx
      have residue : t.pt.residue = _ := (congrArg (fun t : State => t.pt.residue) whole).trans (q.takeImage_residue v)
      rw [residue, show q.pt.residue = [] from empty] at hx
      obtain ⟨z, -, rfl⟩ := List.mem_map.1 hx
      rfl
    · intro empty
      rw [congrArg State.fa whole, congrArg State.interest whole, ← followPlan_nil, ← show q.fa.plan = [] from empty]
      rfl
    · rw [cfg, congrArg State.interest whole, congrArg State.pt whole, congrArg State.fa whole, congrArg State.irm whole]
      exact whole

end Sys2Proof.Machine
end

section
/-! Exact integer roots and rounded quotients (section 5.2), unit scaling (R24) and sun evaluations (R113 to R115). -/

namespace Sys2Proof.Machine

/-! ## The integer square root (section 5.2) -/

/-- The search keeps its lower bound `r` and halves the gap `2 ^ b` above it. -/
theorem isqrtBits_rootOf (b n r : Nat) (low : r * r ≤ n) (high : n < (r + 2 ^ b) * (r + 2 ^ b)) :
    RootOf n (isqrtBits b n r) := by
  induction b generalizing r with
  | zero => exact ⟨low, high⟩
  | succ b ih =>
    have half : r + 2 ^ (b + 1) = r + 2 ^ b + 2 ^ b := by rw [pow_succ]; omega
    simp only [isqrtBits]
    split
    · exact ih _ ‹_› (half ▸ high)
    · exact ih _ low (Nat.lt_of_not_le ‹_›)

theorem isqrt_rootOf (n : Nat) : RootOf n (isqrt n) := by
  refine isqrtBits_rootOf _ n 0 (Nat.zero_le n) ?_
  have bits : n < 2 ^ (Nat.log2 n + 1) := Nat.lt_log2_self
  calc n < 2 ^ (Nat.log2 n + 1) := bits
    _ ≤ 2 ^ (2 * (Nat.log2 n / 2 + 1)) := Nat.pow_le_pow_right (by decide) (by omega)
    _ = (0 + 2 ^ (Nat.log2 n / 2 + 1)) * (0 + 2 ^ (Nat.log2 n / 2 + 1)) := by rw [Nat.zero_add, ← pow_add, two_mul]

theorem RootOf.eq {n a b : Nat} (ha : RootOf n a) (hb : RootOf n b) : a = b := by
  have le : ∀ {a b : Nat}, RootOf n a → RootOf n b → a ≤ b := fun ha hb =>
    Nat.lt_succ_iff.1 (Nat.mul_self_lt_mul_self_iff.1 (ha.1.trans_lt hb.2))
  exact Nat.le_antisymm (le ha hb) (le hb ha)

/-! ## Rounded quotients (section 5.2) -/

/-- A quotient of a value not below 0, rounded to the nearest, the halfway value up. -/
theorem RoundsTo.of_nat (x : Nat) {d : Nat} (hd : 0 < d) : RoundsTo x d ((2 * x + d) / (2 * d) : Nat) := by
  have split := Nat.div_add_mod (2 * x + d) (2 * d)
  have rest := Nat.mod_lt (2 * x + d) (y := 2 * d) (by omega)
  generalize (2 * x + d) / (2 * d) = q at split ⊢
  generalize (2 * x + d) % (2 * d) = r at split rest
  have e : 2 * d * q = 2 * (q * d) := by ring
  rw [e] at split
  have whole : ((q : Int) * (d : Int)) = ((q * d : Nat) : Int) := (Int.natCast_mul q d).symm
  rw [RoundsTo, whole]
  constructor <;> omega

theorem RoundsTo.neg {x q : Int} {d : Nat} (h : RoundsTo x d q) : RoundsTo (-x) d (-q) := by
  rw [RoundsTo, Int.neg_mul]
  exact ⟨by have := h.1; omega, by have := h.2; omega⟩

theorem roundDiv_roundsTo (x : Int) {d : Nat} (hd : 0 < d) : RoundsTo x d (roundDiv x d) := by
  simp only [roundDiv]
  split
  · rename_i h
    simpa only [Int.toNat_of_nonneg h] using RoundsTo.of_nat x.toNat hd
  · have h : (((-x).toNat : Nat) : Int) = -x := Int.toNat_of_nonneg (by omega)
    simpa only [h, Int.neg_neg] using (RoundsTo.of_nat (-x).toNat hd).neg

/-- Two nearest integers are at most one apart, and where they are, both are halfway: the tie then names one of them. -/
theorem RoundsTo.le {x p q : Int} {d : Nat} (hd : 0 < d) (hp : RoundsTo x d p) (hq : RoundsTo x d q) : p ≤ q := by
  obtain ⟨near, tie⟩ := hp
  obtain ⟨near', tie'⟩ := hq
  by_contra more
  have gap : q * d + d ≤ p * d := by
    have := Int.mul_le_mul_of_nonneg_right (show q + 1 ≤ p by omega) (Int.natCast_nonneg d)
    rwa [Int.add_mul, Int.one_mul] at this
  have side : 0 ≤ q * (d : Int) ∨ q * (d : Int) + d ≤ 0 := by
    rcases Int.lt_or_le q 0 with h | h
    · have := Int.mul_le_mul_of_nonneg_right (show q + 1 ≤ 0 by omega) (Int.natCast_nonneg d)
      exact .inr (by rwa [Int.add_mul, Int.one_mul, Int.zero_mul] at this)
    · exact .inl (Int.mul_nonneg h (Int.natCast_nonneg d))
  generalize p * (d : Int) = P at *
  generalize q * (d : Int) = Q at *
  omega

theorem RoundsTo.eq {x p q : Int} {d : Nat} (hd : 0 < d) (hp : RoundsTo x d p) (hq : RoundsTo x d q) : p = q :=
  Int.le_antisymm (hp.le hd hq) (hq.le hd hp)

theorem RoundsTo.eq_roundDiv {x q : Int} {d : Nat} (hd : 0 < d) (h : RoundsTo x d q) : q = roundDiv x d :=
  h.eq hd (roundDiv_roundsTo x hd)

/-! ## Unit scaling (R24) -/

theorem Vec3.length_rootOf (v : Vec3) : RootOf (squares v) (Vec3.length v) := isqrt_rootOf _

theorem Vec3.length_zero : Vec3.length ⟨0, 0, 0⟩ = 0 := by decide

/-- A vector of whole numbers that is not zero is at least one long. -/
theorem Vec3.length_pos {v : Vec3} (h : v ≠ ⟨0, 0, 0⟩) : 0 < Vec3.length v := by
  by_contra zero
  have short := (Vec3.length_rootOf v).2
  rw [Nat.eq_zero_of_not_pos zero] at short
  have e := mul_self_nonneg v.e
  have n := mul_self_nonneg v.n
  have u := mul_self_nonneg v.u
  simp only [squares] at short
  have zero_of : ∀ {x : Int}, x * x = 0 → x = 0 := mul_self_eq_zero.1
  exact h (Vec3.mk.injEq .. |>.mpr ⟨zero_of (by omega), zero_of (by omega), zero_of (by omega)⟩)

theorem unitScale_zero : unitScale ⟨0, 0, 0⟩ = none := by simp only [unitScale, Vec3.length_zero, if_true]

theorem unitScale_scalesTo {v : Vec3} (h : v ≠ ⟨0, 0, 0⟩) : ∃ q, unitScale v = some q ∧ ScalesTo v q := by
  have m := Vec3.length_pos h
  exact ⟨_, if_neg m.ne', _, (Vec3.length_rootOf v), m, roundDiv_roundsTo _ m, roundDiv_roundsTo _ m, roundDiv_roundsTo _ m⟩

/-- R24: the unit scaling of a vector is one vector, the one that is computed. -/
theorem ScalesTo.unitScale_eq {v q : Vec3} (h : ScalesTo v q) : unitScale v = some q := by
  obtain ⟨m, root, pos, e, n, u⟩ := h
  obtain rfl : m = Vec3.length v := root.eq (Vec3.length_rootOf v)
  obtain ⟨qe, qn, qu⟩ := q
  obtain rfl := e.eq_roundDiv pos
  obtain rfl := n.eq_roundDiv pos
  obtain rfl := u.eq_roundDiv pos
  exact if_neg pos.ne'

/-! ## Sun evaluations (R113 to R115) -/

theorem RefStore.selected_none {rs : RefStore} (h : ∀ k : Fin 8, rs.sun[k] = none) : rs.selected = none := by
  rw [RefStore.selected, List.findSome?_eq_none_iff]
  intro x hx
  obtain ⟨k, hk, rfl⟩ := Vector.mem_iff_getElem.1 (Vector.mem_toList_iff.1 hx)
  exact h ⟨k, hk⟩

/-- R113: the record selected is the valid one of the lowest-numbered slot. -/
theorem RefStore.selected_some {rs : RefStore} {k : Fin 8} {r : SunRecord} (h : rs.sun[k] = some r)
    (least : ∀ j : Fin 8, j < k → rs.sun[j] = none) : rs.selected = some r := by
  have at_k : rs.sun.toList[k.val]'(by simp) = some r := by simpa using h
  rw [RefStore.selected, ← List.take_append_drop k.val rs.sun.toList, List.findSome?_append]
  have before : (rs.sun.toList.take k.val).findSome? id = none := by
    rw [List.findSome?_eq_none_iff]
    intro x hx
    obtain ⟨j, hj, rfl⟩ := List.mem_take_iff_getElem.1 hx
    simpa using least ⟨j, by omega⟩ (by rw [Fin.lt_def]; dsimp only; omega)
  rw [before, List.drop_eq_getElem_cons (by simp), at_k]
  rfl

/-- Settles O40: the root by its bits; the evaluation by the selected record and the uniqueness of what is rounded. -/
theorem rootsAndSunVectorsAreExact : Obligations.RootsAndSunVectorsAreExact := by
  refine ⟨isqrt_rootOf, fun s offset => ⟨fun none => ?_, fun k r valid least => ?_⟩⟩
  · simp only [State.evalSun, RefStore.selected_none none]
  · intro ms w e n u
    have extrapolated : r.extrapolated s.bi.epoch offset = w := by
      have component : ∀ {x : Int} {s0 r : Int}, RoundsTo (r * ms) 1024000 (x - s0) → s0 + roundDiv (r * ms) 1024000 = x :=
        fun h => by rw [← h.eq_roundDiv (by decide)]; omega
      simp only [SunRecord.extrapolated, extrapolate, ageOf, Nat.cast_add, Nat.cast_mul, Nat.cast_ofNat]
      exact Vec3.mk.injEq .. |>.mpr ⟨component e, component n, component u⟩
    have eval : s.evalSun offset = unitScale w := by
      simp only [State.evalSun, RefStore.selected_some valid least, extrapolated]
    rw [eval]
    exact ⟨fun zero => zero ▸ unitScale_zero, unitScale_scalesTo⟩

end Sys2Proof.Machine
end

section
/-! Angles (R27, R28): the digits that repeated squaring yields are those of the true angle. -/

namespace Sys2Proof.Machine

open Real

/-! ## The digits of a quarter turn -/

/-- `x` and `y` are the components of a vector with the angle `θ`, below a quarter turn. -/
structure HasAngle (x y θ : ℝ) : Prop where
  nonneg : 0 ≤ θ
  lt : θ < π / 2
  polar : ∃ ρ > 0, x = ρ * cos θ ∧ y = ρ * sin θ

theorem HasAngle.pos {x y θ : ℝ} (h : HasAngle x y θ) : 0 < x := by
  obtain ⟨ρ, hρ, rfl, -⟩ := h.polar
  exact mul_pos hρ (cos_pos_of_mem_Ioo ⟨by linarith [h.nonneg, pi_pos], h.lt⟩)

/-- The components of a vector with the double angle. -/
theorem polar_double {ρ θ : ℝ} :
    (ρ * cos θ) ^ 2 - (ρ * sin θ) ^ 2 = ρ ^ 2 * cos (2 * θ) ∧
      2 * (ρ * cos θ) * (ρ * sin θ) = ρ ^ 2 * sin (2 * θ) := by
  rw [cos_two_mul', sin_two_mul]
  constructor <;> ring

/-- An angle is below an eighth of a turn where the second component is the smaller. -/
theorem HasAngle.sq_lt_sq_iff {x y θ : ℝ} (h : HasAngle x y θ) : y ^ 2 < x ^ 2 ↔ θ < π / 4 := by
  obtain ⟨ρ, hρ, rfl, rfl⟩ := h.polar
  have double := (polar_double (ρ := ρ) (θ := θ)).1
  have nonneg := h.nonneg
  have lt := h.lt
  constructor
  · intro less
    by_contra ge
    have : cos (2 * θ) ≤ 0 := cos_nonpos_of_pi_div_two_le_of_le (by linarith) (by linarith)
    have := mul_nonpos_of_nonneg_of_nonpos (sq_nonneg ρ) this
    linarith
  · intro less
    have : 0 < cos (2 * θ) := cos_pos_of_mem_Ioo ⟨by linarith [pi_pos], by linarith⟩
    have := mul_pos (pow_pos hρ 2) this
    linarith

/-- Below an eighth of a turn, squaring doubles the angle. -/
theorem HasAngle.low {x y θ : ℝ} (h : HasAngle x y θ) (low : θ < π / 4) :
    HasAngle (x ^ 2 - y ^ 2) (2 * x * y) (2 * θ) := by
  obtain ⟨ρ, hρ, rfl, rfl⟩ := h.polar
  exact ⟨by linarith [h.nonneg], by linarith, ρ ^ 2, pow_pos hρ 2, polar_double.1, polar_double.2⟩

/-- From an eighth of a turn on, squaring and turning back by a quarter. -/
theorem HasAngle.high {x y θ : ℝ} (h : HasAngle x y θ) (high : π / 4 ≤ θ) :
    HasAngle (2 * x * y) (y ^ 2 - x ^ 2) (2 * θ - π / 2) := by
  obtain ⟨ρ, hρ, rfl, rfl⟩ := h.polar
  refine ⟨by linarith, by linarith [h.lt], ρ ^ 2, pow_pos hρ 2, ?_, ?_⟩
  · rw [cos_sub_pi_div_two]
    exact polar_double.2
  · rw [sin_sub_pi_div_two, mul_neg, ← polar_double.1]
    ring

/-- The digits yielded are those of the angle, as a fraction of a quarter turn, after the digits before them. -/
theorem quarterDigits_eq (k : Nat) {x y : Nat} {θ : ℝ} (acc : Nat) (h : HasAngle x y θ) :
    quarterDigits k x y acc = 2 ^ k * acc + ⌊θ / (π / 2) * 2 ^ k⌋₊ := by
  have quarter : (0 : ℝ) < π / 2 := by positivity
  induction k generalizing x y θ acc with
  | zero =>
    have none : ⌊θ / (π / 2) * 2 ^ 0⌋₊ = 0 := by
      rw [pow_zero, mul_one, Nat.floor_eq_zero, div_lt_one quarter]
      exact h.lt
    rw [none, quarterDigits, pow_zero, Nat.one_mul, Nat.add_zero]
  | succ k ih =>
    have test : y * y < x * x ↔ θ < π / 4 := by
      rw [← h.sq_lt_sq_iff, ← Nat.cast_lt (α := ℝ)]
      push_cast
      rw [sq, sq]
    simp only [quarterDigits]
    split
    · rename_i less
      have twice : HasAngle (x * x - y * y : Nat) (2 * x * y : Nat) (2 * θ) := by
        rw [Nat.cast_sub less.le]
        push_cast
        simpa only [sq] using h.low (test.1 less)
      rw [ih _ twice, show 2 * θ / (π / 2) * 2 ^ k = θ / (π / 2) * 2 ^ (k + 1) by ring]
      ring
    · rename_i more
      have ge : π / 4 ≤ θ := not_lt.1 (mt test.2 more)
      have twice : HasAngle (2 * x * y : Nat) (y * y - x * x : Nat) (2 * θ - π / 2) := by
        rw [Nat.cast_sub (not_lt.1 more)]
        push_cast
        simpa only [sq] using h.high ge
      have digit : θ / (π / 2) * 2 ^ (k + 1) = (2 * θ - π / 2) / (π / 2) * 2 ^ k + (2 ^ k : Nat) := by
        push_cast
        field_simp
        ring
      rw [ih _ twice, digit, Nat.floor_add_natCast]
      · ring
      · have := twice.nonneg
        positivity

/-- The angle of a vector in half angle units, rounded down. -/
theorem quarterHalfUnits_eq {x y : Nat} {θ : ℝ} (h : HasAngle x y θ) :
    quarterHalfUnits x y = ⌊θ / (π / 2) * 32768⌋₊ := by
  rw [quarterHalfUnits, quarterDigits_eq 15 0 h]
  norm_num

/-- Half units from north, `q` quarters and the angle `θ`, rounded down, are the units of the angle, rounded to the nearest
with the halfway value going up. -/
theorem half_units_round {x y : Int} {θ z : ℝ} (h : HasAngle x y θ) (q : Nat) (hz : z = 16384 * q + θ * 32768 / π) :
    (((q * 32768 + quarterHalfUnits x.toNat y.toNat + 1) / 2 : Nat) : Int) = ⌊z + 1 / 2⌋ := by
  have toNat : ∀ {i : Int}, (0 : ℝ) ≤ i → ((i.toNat : Nat) : ℝ) = i := fun h => by
    rw [← Int.cast_natCast, Int.toNat_of_nonneg (Int.cast_nonneg_iff.1 h)]
  have y_nonneg : (0 : ℝ) ≤ y := by
    obtain ⟨ρ, hρ, -, e⟩ := h.polar
    rw [e]
    exact mul_nonneg hρ.le (sin_nonneg_of_nonneg_of_le_pi h.nonneg (by linarith [h.lt, pi_pos]))
  have angle : HasAngle (x.toNat : Nat) (y.toNat : Nat) θ := by
    rwa [toNat h.pos.le, toNat y_nonneg]
  have half_nonneg : 0 ≤ θ / (π / 2) * 32768 := by
    have := h.nonneg
    positivity
  have half : 2 * z = θ / (π / 2) * 32768 + (q * 32768 : Nat) := by
    rw [hz]
    push_cast
    field_simp
    ring
  have z_nonneg : 0 ≤ z := by
    have : (0 : ℝ) ≤ (q * 32768 : Nat) := Nat.cast_nonneg _
    linarith
  rw [quarterHalfUnits_eq angle, Nat.add_comm (q * 32768), ← Nat.floor_add_natCast half_nonneg, ← half,
    ← Nat.floor_add_one (by linarith), ← Nat.floor_div_ofNat, Int.natCast_floor_eq_floor (by linarith)]
  congr 1
  ring

/-! ## Elevation (R28) -/

theorem HasAngle.arctan {x y : ℝ} (hx : 0 < x) (hy : 0 ≤ y) : HasAngle x y (arctan (y / x)) := by
  have c : 0 < cos (Real.arctan (y / x)) := cos_arctan_pos _
  refine ⟨arctan_nonneg.2 (by positivity), arctan_lt_pi_div_two _, x / cos (Real.arctan (y / x)), by positivity, ?_, ?_⟩
  · field_simp
  · have t := tan_arctan (y / x)
    rw [tan_eq_sin_div_cos, div_eq_div_iff c.ne' hx.ne'] at t
    field_simp
    linarith

/-- R28: an elevation not below the horizon. -/
theorem elevation_round {u : Int} {h : Nat} (hh : 0 < h) (hu : 0 ≤ u) :
    (((quarterHalfUnits h u.toNat + 1) / 2 : Nat) : Int) = ⌊Real.arctan ((u : ℝ) / (h : ℝ)) * 32768 / π + 1 / 2⌋ := by
  have angle : HasAngle ((h : Int) : ℝ) u (Real.arctan ((u : ℝ) / (h : ℝ))) := by
    rw [Int.cast_natCast]
    exact .arctan (Nat.cast_pos.2 hh) (Int.cast_nonneg hu)
  have round := half_units_round angle 0 (by rw [Nat.cast_zero, mul_zero, zero_add])
  rwa [Nat.zero_mul, Nat.zero_add, Int.toNat_natCast] at round

/-! ## Azimuth (R27) -/

/-- The quarters of a turn clockwise from north: which component of a direction lies along the beginning of the quarter,
which across it, and what the azimuth is then formed from. -/
theorem azimuthOf_quarters {e n : Int} {r θ : ℝ} (q : Nat) (hq : q < 4) (hr : 0 < r) (nonneg : 0 ≤ θ) (lt : θ < π / 2)
    (he : (e : ℝ) = r * sin (θ + q * (π / 2))) (hn : (n : ℝ) = r * cos (θ + q * (π / 2))) :
    ∃ x y : Int, HasAngle x y θ ∧ azimuthOf e n = (q * 32768 + quarterHalfUnits x.toNat y.toNat + 1) / 2 % 65536 := by
  have c : 0 < r * cos θ := mul_pos hr (cos_pos_of_mem_Ioo ⟨by linarith [pi_pos], lt⟩)
  have s : 0 ≤ r * sin θ := mul_nonneg hr.le (sin_nonneg_of_nonneg_of_le_pi nonneg (by linarith [pi_pos]))
  have pos : ∀ {i : Int}, (i : ℝ) = r * cos θ → 0 < i := fun h => Int.cast_pos.1 (h ▸ c)
  have not_neg : ∀ {i : Int}, (i : ℝ) = r * sin θ → 0 ≤ i := fun h => Int.cast_nonneg_iff.1 (h ▸ s)
  have angle : ∀ {x y : Int}, (x : ℝ) = r * cos θ → (y : ℝ) = r * sin θ → HasAngle x y θ :=
    fun hx hy => ⟨nonneg, lt, r, hr, hx, hy⟩
  obtain rfl | rfl | rfl | rfl : q = 0 ∨ q = 1 ∨ q = 2 ∨ q = 3 := by omega
  · rw [Nat.cast_zero, zero_mul, add_zero] at he hn
    have := pos hn
    have := not_neg he
    exact ⟨n, e, angle hn he, by simp only [azimuthOf]; rw [if_pos (by omega), Nat.zero_mul, Nat.zero_add]⟩
  · rw [Nat.cast_one, one_mul, sin_add_pi_div_two] at he
    rw [Nat.cast_one, one_mul, cos_add_pi_div_two] at hn
    have hn' : ((-n : Int) : ℝ) = r * sin θ := by push_cast; linarith
    have := pos he
    have := not_neg hn'
    exact ⟨e, -n, angle he hn', by simp only [azimuthOf]; rw [if_neg (by omega), if_pos (by omega)]⟩
  · rw [Nat.cast_ofNat, mul_div_cancel₀ π two_ne_zero, sin_add_pi] at he
    rw [Nat.cast_ofNat, mul_div_cancel₀ π two_ne_zero, cos_add_pi] at hn
    have he' : ((-e : Int) : ℝ) = r * sin θ := by push_cast; linarith
    have hn' : ((-n : Int) : ℝ) = r * cos θ := by push_cast; linarith
    have := pos hn'
    have := not_neg he'
    exact ⟨-n, -e, angle hn' he', by
      simp only [azimuthOf]
      rw [if_neg (by omega), if_neg (by omega), if_pos (by omega)]⟩
  · have turn : θ + (3 : Nat) * (π / 2) = θ + π / 2 + π := by push_cast; ring
    rw [turn, sin_add_pi, sin_add_pi_div_two] at he
    rw [turn, cos_add_pi, cos_add_pi_div_two] at hn
    have he' : ((-e : Int) : ℝ) = r * cos θ := by push_cast; linarith
    have hn' : (n : ℝ) = r * sin θ := by linarith
    have := pos he'
    have := not_neg hn'
    exact ⟨-e, n, angle he' hn', by
      simp only [azimuthOf]
      rw [if_neg (by omega), if_neg (by omega), if_neg (by omega)]⟩

/-- Settles O41: the angles are formed from the digits of an angle below a quarter turn, the elevation's own or what the
azimuth is beyond the last of its quarters. -/
theorem anglesAreRounded : Obligations.AnglesAreRounded := by
  refine ⟨fun u h hh => ?_, fun e n x r hr nonneg lt he hn => ?_⟩
  · intro x
    simp only [elevationOf]
    split
    · exact elevation_round hh ‹_›
    · rw [elevation_round hh (u := -u) (by omega), Int.cast_neg, neg_div, arctan_neg, neg_mul, neg_div]
  · obtain ⟨q, low, high⟩ : ∃ q : Nat, 16384 * (q : ℝ) ≤ x ∧ x < 16384 * (q + 1) := by
      refine ⟨⌊x / 16384⌋₊, ?_, ?_⟩
      · have := Nat.floor_le (show 0 ≤ x / 16384 by positivity)
        linarith
      · have := Nat.lt_floor_add_one (x / 16384)
        linarith
    have hq : q < 4 := by
      have : (q : ℝ) < 4 := by linarith
      exact_mod_cast this
    have beyond : x * π / 32768 = (x - 16384 * q) * π / 32768 + q * (π / 2) := by ring
    rw [beyond] at he hn
    obtain ⟨a, b, angle, azimuth⟩ := azimuthOf_quarters q hq hr
      (div_nonneg (mul_nonneg (by linarith) pi_pos.le) (by norm_num)) (by nlinarith [pi_pos]) he hn
    have units : x = 16384 * q + (x - 16384 * q) * π / 32768 * 32768 / π := by
      field_simp
      ring
    rw [azimuth, Int.natCast_mod, half_units_round angle q units]
    rfl

end Sys2Proof.Machine
end

section
/-! A heliostat's turn (R22 to R41): its two parts, the choice among the windings, the corrected targets. -/

namespace Sys2Proof.Machine

/-! ## Normals (R25, R26, R30) -/

theorem zeroNormal_iff (v : Vec3) : zeroNormal v = true ↔ v = ⟨0, 0, 0⟩ := by
  cases v
  simp [zeroNormal, and_assoc]

theorem IsNormal.mirrorNormal_eq {sun pivot point n : Vec3} (h : IsNormal sun pivot point n) :
    mirrorNormal sun pivot point = some n := by
  have back : Vec3.add sun ⟨n.e - sun.e, n.n - sun.n, n.u - sun.u⟩ = n := by
    cases n
    simp [Vec3.add]
  simp only [mirrorNormal, Vec3.sub, ScalesTo.unitScale_eq h, back]

/-! ## The two parts of a turn (R22, R40, R41) -/

theorem Helio.turn_of_computed {h : Helio} (on : h.computed = true) (cfg : StationConfig) (irr : Nat) (sun : Vec3) :
    h.turn cfg irr sun = (h.targetPart cfg sun).estimatePart cfg irr sun := if_pos on

theorem Helio.turn_of_not_computed {h : Helio} (off : h.computed = false) (cfg : StationConfig) (irr : Nat) (sun : Vec3) :
    h.turn cfg irr sun = h := if_neg (Bool.eq_false_iff.1 off)

/-- R30, R31, R39: an estimate computation writes P, c and GEOM. -/
theorem Helio.estimatePart_frame (h : Helio) (cfg : StationConfig) (irr : Nat) (sun : Vec3) :
    h.estimatePart cfg irr sun = { h with
      p := (h.estimatePart cfg irr sun).p, c := (h.estimatePart cfg irr sun).c
      geom := (h.estimatePart cfg irr sun).geom } := by
  simp only [Helio.estimatePart]
  split <;> rfl

/-- R30: no computation clears GEOM. -/
theorem Helio.estimatePart_geom {h : Helio} (g : h.geom = true) (cfg : StationConfig) (irr : Nat) (sun : Vec3) :
    (h.estimatePart cfg irr sun).geom = true := by
  simp only [Helio.estimatePart]
  split
  · exact g
  · simp [Helio.estimateFrom, g]

/-- R40: the normal of the estimate computation, toward the first candidate, is read from the configuration alone. -/
def Helio.estimateNormal (h : Helio) (cfg : StationConfig) (sun : Vec3) : Option Vec3 :=
  h.normalToward sun (h.estimatePoint cfg)

theorem Helio.estimateNormal_congr {h h' : Helio} (e : h'.cfg = h.cfg) (cfg : StationConfig) (sun : Vec3) :
    h'.estimateNormal cfg sun = h.estimateNormal cfg sun := by
  simp only [Helio.estimateNormal, Helio.normalToward, Helio.estimatePoint, e]

theorem Helio.estimatePart_of_none {h : Helio} {cfg : StationConfig} {sun : Vec3} (e : h.estimateNormal cfg sun = none)
    (irr : Nat) : h.estimatePart cfg irr sun = h := by
  rw [Helio.estimateNormal] at e
  simp only [Helio.estimatePart, e]

theorem Helio.estimatePart_of_some {h : Helio} {cfg : StationConfig} {sun n : Vec3}
    (e : h.estimateNormal cfg sun = some n) (irr : Nat) : h.estimatePart cfg irr sun = h.estimateFrom irr n := by
  rw [Helio.estimateNormal] at e
  simp only [Helio.estimatePart, e]

/-- R26 to R38: a target computation leaves the configuration, P and c. -/
theorem Helio.targetPart_keeps (h : Helio) (cfg : StationConfig) (sun : Vec3) :
    (h.targetPart cfg sun).cfg = h.cfg ∧ (h.targetPart cfg sun).p = h.p ∧ (h.targetPart cfg sun).c = h.c := by
  simp only [Helio.targetPart]
  split
  · exact ⟨rfl, rfl, rfl⟩
  · simp only [Helio.aimAlong]
    split <;> exact ⟨rfl, rfl, rfl⟩

theorem Helio.targetPart_estimateNormal (h : Helio) (cfg : StationConfig) (sun : Vec3) :
    (h.targetPart cfg sun).estimateNormal cfg sun = h.estimateNormal cfg sun :=
  Helio.estimateNormal_congr (h.targetPart_keeps cfg sun).1 cfg sun

/-- R39, R40: the P that a turn forms is read from the configuration, the irradiance and the sun. -/
theorem Helio.turn_p {h : Helio} (on : h.computed = true) (cfg : StationConfig) (irr : Nat) (sun : Vec3) :
    (h.turn cfg irr sun).p = match h.estimateNormal cfg sun with
      | none => h.p
      | some n => estimateP irr h.cfg.area (incidenceCosine n) h.cfg.delivery := by
  obtain ⟨same_cfg, same_p, -⟩ := h.targetPart_keeps cfg sun
  rw [Helio.turn_of_computed on]
  cases e : h.estimateNormal cfg sun with
  | none => rw [Helio.estimatePart_of_none (by rwa [Helio.targetPart_estimateNormal]), same_p]
  | some n =>
    rw [Helio.estimatePart_of_some (by rwa [Helio.targetPart_estimateNormal])]
    simp only [Helio.estimateFrom, same_cfg]

theorem Helio.estimateNormal_of_candidate {h : Helio} {cfg : StationConfig} {ap : Nat} {a : AimPoint} {sun n : Vec3}
    (first : h.cfg.candidates.head? = some ap) (table : cfg.aims[ap]? = some a) (normal : IsNormal sun h.cfg.pivot a.pos n) :
    h.estimateNormal cfg sun = some n := by
  simp only [Helio.estimateNormal, Helio.normalToward, Helio.estimatePoint, first, table, normal.mirrorNormal_eq]

theorem Helio.targetPart_of_point {h : Helio} {cfg : StationConfig} {point sun n : Vec3} (aim : h.aimPoint cfg = some point)
    (normal : IsNormal sun h.cfg.pivot point n) : h.targetPart cfg sun = h.aimAlong n := by
  simp only [Helio.targetPart, Helio.normalToward, aim, normal.mirrorNormal_eq]

/-- R22: no target is computed at the other levels. -/
theorem Helio.targetPart_of_other_level {h : Helio} (track : h.engaged ≠ .track) (standby : h.engaged ≠ .standby)
    (cfg : StationConfig) (sun : Vec3) : h.targetPart cfg sun = h := by
  have aim : h.aimPoint cfg = none := by
    cases e : h.engaged
    case track => exact absurd e track
    case standby => exact absurd e standby
    all_goals simp only [Helio.aimPoint, e]
  simp only [Helio.targetPart, Helio.normalToward, aim]

/-- R22: the standby point at STANDBY and at TRACK without an assignment, else the aim point assigned. -/
theorem Helio.aimPoint_eq {h : Helio} {cfg : StationConfig} {point : Vec3}
    (aim : (h.engaged = .standby ∨ (h.engaged = .track ∧ h.assignment = none)) ∧ point = cfg.standby ∨
      (h.engaged = .track ∧ ∃ ap a, h.assignment = some ap ∧ cfg.aims[ap]? = some a ∧ point = a.pos)) :
    h.aimPoint cfg = some point := by
  obtain ⟨standby | ⟨track, free⟩, rfl⟩ | ⟨track, ap, a, assigned, table, rfl⟩ := aim
  · simp only [Helio.aimPoint, standby]
  · simp only [Helio.aimPoint, track, free]
  · simp only [Helio.aimPoint, track, assigned, table]

/-! ## Azimuth targets (R35 to R37) -/

theorem leastBy_eq_none {cost : Int → Nat} {l : List Int} (h : leastBy cost l = none) : l = [] := by
  cases l with
  | nil => rfl
  | cons x rest =>
    simp only [leastBy] at h
    repeat' split at h
    all_goals cases h

theorem leastBy_firstLeast {cost : Int → Nat} {l : List Int} {x : Int} (h : leastBy cost l = some x) :
    FirstLeast cost l x := by
  induction l generalizing x with
  | nil => cases h
  | cons y rest ih =>
    simp only [leastBy] at h
    split at h
    · rename_i none
      obtain rfl := leastBy_eq_none none
      cases h
      exact ⟨[], [], rfl, by simp, by simp⟩
    · rename_i z least
      obtain ⟨before, after, rfl, less, le⟩ := ih least
      split at h
      · rename_i first
        cases h
        refine ⟨[], _, rfl, by simp, fun w hw => ?_⟩
        obtain hw | rfl | hw := by simpa using hw
        · exact first.trans (less w hw).le
        · exact first
        · exact first.trans (le w hw)
      · rename_i later
        cases h
        refine ⟨y :: before, after, rfl, fun w hw => ?_, le⟩
        obtain rfl | hw := List.mem_cons.1 hw
        · exact Nat.lt_of_not_le later
        · exact less w hw

/-- R36, R37: the azimuth target is chosen among the windings. -/
theorem azimuthTarget_chosen (prm : AxisParams) (current azc : Int) :
    AzimuthChosen prm current (windings prm azc) (azimuthTarget prm current azc).1 (azimuthTarget prm current azc).2 := by
  have inside : (windings prm azc).filter (fun x => prm.softMin ≤ x && x ≤ prm.softMax) =
      (windings prm azc).filter prm.within := rfl
  have excess : (fun x : Int => if x < prm.softMin then (prm.softMin - x).toNat else (x - prm.softMax).toNat) = prm.excess :=
    rfl
  simp only [AzimuthChosen, inside, excess, azimuthTarget]
  cases near : leastBy (fun x => (x - current).natAbs) ((windings prm azc).filter prm.within) with
  | some x =>
    have some_inside : (windings prm azc).filter prm.within ≠ [] := List.ne_nil_of_mem (leastBy_mem near)
    exact ⟨fun _ => ⟨rfl, leastBy_firstLeast near⟩, fun none => absurd none some_inside⟩
  | none =>
    have none_inside := leastBy_eq_none near
    cases beyond : leastBy prm.excess (windings prm azc) with
    | some x => exact ⟨fun some => absurd none_inside some, fun _ => ⟨rfl, x, leastBy_firstLeast beyond, rfl⟩⟩
    | none => cases leastBy_eq_none beyond

theorem FirstLeast.mem {cost : Int → Nat} {l : List Int} {x : Int} (h : FirstLeast cost l x) : x ∈ l := by
  obtain ⟨before, after, rfl, -⟩ := h
  simp

/-- R36, R37: an azimuth target lies within the soft limits. -/
theorem AzimuthChosen.soft {prm : AxisParams} {current t : Int} {l : List Int} {clamped : Bool}
    (h : AzimuthChosen prm current l t clamped) (limits : prm.softMin ≤ prm.softMax) :
    prm.softMin ≤ t ∧ t ≤ prm.softMax := by
  obtain ⟨some, none⟩ := h
  by_cases empty : (l.filter fun x => prm.softMin ≤ x && x ≤ prm.softMax) = []
  · obtain ⟨-, x, -, rfl⟩ := none empty
    split
    · exact ⟨Int.le_refl _, limits⟩
    · exact ⟨limits, Int.le_refl _⟩
  · simpa using (List.mem_filter.1 (some empty).2.mem).2

/-! ## Angles and elevation targets (R29, R32, R34) -/

theorem wrapAngle_spec (x : Int) : -32768 ≤ wrapAngle x ∧ wrapAngle x ≤ 32767 ∧ (wrapAngle x - x) % 65536 = 0 := by
  simp only [wrapAngle]
  split <;> omega

/-- R32, R35: the corrected azimuth, less the zero, wrapped. -/
theorem wrapAngle_correctedAz (az : Nat) (dAz zero : Int) :
    (wrapAngle (correctedAz az dAz - zero) - (az + dAz - zero)) % 65536 = 0 := by
  have wrapped := (wrapAngle_spec (correctedAz az dAz - zero)).2.2
  simp only [correctedAz] at wrapped ⊢
  omega

theorem Axis.soft_eq (a : Axis) (x : Int) :
    a.soft x = if x < a.prm.softMin then a.prm.softMin else min x a.prm.softMax := by
  simp only [Axis.soft, clampTo]
  split_ifs <;> omega

theorem Axis.soft_changes (a : Axis) (x : Int) :
    (a.soft x != x) = (decide (x < a.prm.softMin) || decide (a.prm.softMax < x)) := by
  rw [Axis.soft_eq, Bool.eq_iff_iff]
  simp only [bne_iff_ne, Bool.or_eq_true, decide_eq_true_eq]
  split <;> omega

theorem Axis.soft_bounds {a : Axis} (limits : a.prm.softMin ≤ a.prm.softMax) (x : Int) :
    a.prm.softMin ≤ a.soft x ∧ a.soft x ≤ a.prm.softMax := by
  rw [Axis.soft_eq]
  split <;> omega

theorem Helio.aimAlong_zero (h : Helio) : h.aimAlong ⟨0, 0, 0⟩ = { h with geom := true } := if_pos rfl

/-- R26 to R38: a target computation with a normal that is not zero. -/
theorem Helio.aimAlong_of_ne {n : Vec3} (hn : n ≠ ⟨0, 0, 0⟩) (h : Helio) : h.aimAlong n =
    let az := aimAzimuth n h.lastAz
    let raw := elevationSteps h.el.prm (aimElevation n + h.dEl)
    let azT := azimuthTarget h.az.prm h.az.target (correctedAz az h.dAz)
    { h with
      lastAz := az, lastEl := aimElevation n
      limit := h.limit || azT.2 || h.el.soft raw != raw
      az := h.az.writeTarget azT.1, el := h.el.writeTarget (h.el.soft raw) } :=
  if_neg (mt (zeroNormal_iff n).1 hn)

/-! ## What a turn computes -/

/-- R39, R40: the estimate of a turn. -/
theorem Helio.turn_estimate {h : Helio} {cfg : StationConfig} {ap : Nat} {a : AimPoint} {sun n : Vec3} (irr : Nat)
    (on : h.computed = true) (first : h.cfg.candidates.head? = some ap) (table : cfg.aims[ap]? = some a)
    (normal : IsNormal sun h.cfg.pivot a.pos n) :
    let t := h.turn cfg irr sun
    ∃ m, RootOf (squares n) m ∧ t.c = min m 32767 ∧ t.p = irr * h.cfg.area * t.c * h.cfg.delivery / 3355443200 ∧
      (n = ⟨0, 0, 0⟩ → t.geom = true) := by
  have estimate : h.turn cfg irr sun = (h.targetPart cfg sun).estimateFrom irr n := by
    rw [Helio.turn_of_computed on, Helio.estimatePart_of_some]
    rw [Helio.targetPart_estimateNormal, Helio.estimateNormal_of_candidate first table normal]
  intro t
  refine ⟨Vec3.length n, Vec3.length_rootOf n, congrArg Helio.c estimate, ?_, fun zero => ?_⟩
  · simp only [t, estimate, Helio.estimateFrom, (h.targetPart_keeps cfg sun).1]
    rfl
  · simp [t, estimate, Helio.estimateFrom, (zeroNormal_iff n).2 zero]

/-- R22, R40, R41: the estimate computation writes P, c and GEOM over what the target computation leaves. -/
theorem Helio.turn_frame {h : Helio} (on : h.computed = true) (cfg : StationConfig) (irr : Nat) (sun : Vec3) :
    let t := h.turn cfg irr sun
    t = { h.targetPart cfg sun with p := t.p, c := t.c, geom := t.geom } := by
  simp only [Helio.turn_of_computed on]
  exact Helio.estimatePart_frame ..

/-- Settles O43: a turn is its target computation, then its estimate computation. -/
theorem turnComputesItsValues : Obligations.TurnComputesItsValues := by
  intro h cfg irr sun t
  refine ⟨fun off => h.turn_of_not_computed off cfg irr sun,
    fun ap a n on first table normal => h.turn_estimate irr on first table normal, fun track standby => ?_,
    fun point n on aim normal => ?_, fun a a' l l' => ?_⟩
  · cases on : h.computed with
    | false => simp only [t, Helio.turn_of_not_computed on]
    | true =>
      have frame := h.turn_frame on cfg irr sun
      rwa [Helio.targetPart_of_other_level track standby] at frame
  · have frame := h.turn_frame on cfg irr sun
    rw [Helio.targetPart_of_point (Helio.aimPoint_eq aim) normal] at frame
    constructor
    · rintro rfl
      have geom : t.geom = true := by
        rw [show t = _ from Helio.turn_of_computed on .., Helio.targetPart_of_point (Helio.aimPoint_eq aim) normal]
        exact Helio.estimatePart_geom (by rw [Helio.aimAlong_zero]) ..
      rw [Helio.aimAlong_zero] at frame
      exact frame.trans (by simp only [geom, t])
    · intro hn
      rw [Helio.aimAlong_of_ne hn] at frame
      have chosen := azimuthTarget_chosen h.az.prm h.az.target (correctedAz (aimAzimuth n h.lastAz) h.dAz)
      obtain ⟨d0_ge, d0_le, -⟩ := wrapAngle_spec (correctedAz (aimAzimuth n h.lastAz) h.dAz - h.az.prm.zero)
      have winding : ∀ j : Int, RoundsTo
          ((wrapAngle (correctedAz (aimAzimuth n h.lastAz) h.dAz - h.az.prm.zero) + j * 65536) * h.az.prm.spt) 65536
          (windingSteps h.az.prm (correctedAz (aimAzimuth n h.lastAz) h.dAz) j) :=
        fun j => roundDiv_roundsTo _ (by decide)
      refine ⟨Vec3.horizontal n, aimAzimuth n h.lastAz, aimElevation n,
        elevationSteps h.el.prm (aimElevation n + h.dEl), _, _, _, _,
        wrapAngle (correctedAz (aimAzimuth n h.lastAz) h.dAz - h.az.prm.zero), _, isqrt_rootOf _, fun flat => ?_,
        fun flat => ?_, roundDiv_roundsTo _ (by decide), d0_ge, d0_le, wrapAngle_correctedAz .., ?_, ?_, ?_, chosen, ?_,
        fun limits => ?_, fun limits => ?_⟩
      · simp only [aimAzimuth, aimElevation, flat.ne', if_false, and_self]
      · simp only [aimAzimuth, aimElevation, flat, if_true, and_self]
      · simpa using winding 0
      · simpa [Int.sub_eq_add_neg] using winding (-1)
      · simpa using winding 1
      · rw [← Axis.soft_eq, Bool.or_assoc (h.limit || _), ← Axis.soft_changes]
        exact frame
      · rw [show t.az = _ from congrArg Helio.az frame, Axis.writeTarget_target]
        exact chosen.soft limits
      · rw [show t.el = _ from congrArg Helio.el frame, Axis.writeTarget_target]
        exact Axis.soft_bounds limits _
  · cases on : h.computed with
    | false => rw [Helio.turn_of_not_computed (by exact on), Helio.turn_of_not_computed (by exact on)]
    | true => rw [Helio.turn_p (by exact on), Helio.turn_p (by exact on)]; rfl

end Sys2Proof.Machine
end

section
/-! One microsecond (R19, R21, R44, R87, R89, R95, R96, R134, R157, R192): the clocks, and the events that fall due. -/

namespace Sys2Proof.Machine

/-! ## Clocks -/

theorem Axis.advance_counter (a : Axis) :
    a.advance.counter = if a.period ≠ 0 ∧ 1 < a.counter then a.counter - 1 else a.counter := by
  have test : (a.period != 0 && decide (1 < a.counter)) = true ↔ a.period ≠ 0 ∧ 1 < a.counter := by simp
  simp only [Axis.advance, test]
  split <;> rfl

theorem IrradianceMonitor.advance_timer (irm : IrradianceMonitor) :
    irm.advance.timer = if irm.running = true ∧ irm.timer < 249999 then irm.timer + 1 else irm.timer := by
  simp only [IrradianceMonitor.advance, Bool.and_eq_true, decide_eq_true_eq]
  split <;> rfl

theorem IrradianceMonitor.advance_frame (irm : IrradianceMonitor) : irm.advance = { irm with timer := irm.advance.timer } := by
  simp only [IrradianceMonitor.advance]
  split <;> rfl

theorem DefocusUnit.advance_frame (d : DefocusUnit) :
    d.advance = { d with genCount := d.advance.genCount, genMicros := d.advance.genMicros } := by
  simp only [DefocusUnit.advance]
  (repeat' split) <;> rfl

/-- R134: the two microseconds of a bit that is sent. -/
theorem DefocusUnit.advance_cases (d : DefocusUnit) :
    (d.generating = true → d.genMicros = 0 → d.advance.genMicros = 1 ∧ d.advance.genCount = d.genCount) ∧
      (d.generating = true → d.genMicros ≠ 0 → d.advance.genMicros = 0 ∧ d.advance.genCount = d.genCount - 1) ∧
      (d.generating = false → d.advance = d) := by
  refine ⟨fun g m => ?_, fun g m => ?_, fun g => ?_⟩
  · simp [DefocusUnit.advance, g, m]
  · simp [DefocusUnit.advance, g, m]
  · simp [DefocusUnit.advance, g]

theorem AimUnit.advance_eq (acu : AimUnit) :
    acu.advance = { acu with tick := acu.tick.map fun k => { k with micros := k.micros + 1 } } := by
  cases acu with | mk tick => cases tick <;> rfl

theorem Transmitter.advance_eq (tx : Transmitter) :
    tx.advance = { tx with micros := if tx.phase = .sending then tx.micros + 1 else tx.micros } := by
  simp only [Transmitter.advance]
  split <;> rfl

/-- R87, R90: a slot ends where the timer, advanced, stands at a whole number of slots. -/
theorem BusInterface.endedSlot_eq (bi : BusInterface) : bi.endedSlot =
    if bi.timer < 1999999 ∧ (bi.timer + 1) % 5000 = 0 then some { number := bi.timer / 5000, past := none } else none := by
  have same : nextTimer bi.timer / 5000 = bi.timer / 5000 ↔ ¬(bi.timer < 1999999 ∧ (bi.timer + 1) % 5000 = 0) := by
    simp only [nextTimer]
    split <;> omega
  simp only [BusInterface.endedSlot, same, ite_not]

/-- R44: a microsecond changes of an axis its counter, which reaches 1 and is held there until the step is taken. -/
theorem State.tick_axis {s : State} (h : s.inReset = false) (i : Fin 8) (a : AxisId) :
    s.tick.helios[i].axis a = (s.helios[i].axis a).advance := by
  simp only [State.tick_running h, State.advance, Fin.getElem_fin, getElem_mapEach]
  cases a <;> rfl

/-- A microsecond changes of a heliostat the counters of its axes. -/
theorem State.tick_helio {s : State} (h : s.inReset = false) (i : Fin 8) :
    s.tick.helios[i] = { s.helios[i] with
      az := { s.helios[i].az with counter := s.tick.helios[i].az.counter }
      el := { s.helios[i].el with counter := s.tick.helios[i].el.counter } } := by
  have helio : s.tick.helios[i] = { s.helios[i] with az := s.helios[i].az.advance, el := s.helios[i].el.advance } := by
    simp only [State.tick_running h, State.advance, Fin.getElem_fin, getElem_mapEach]
  rw [helio]
  dsimp only
  rw [← Axis.advance_frame, ← Axis.advance_frame]

/-- All that a microsecond changes beside the counters of the axes. -/
theorem State.tick_frame {s : State} (h : s.inReset = false) : s.tick = { s with
    pending := s.tick.pending, draws := s.draws + 1, helios := s.tick.helios
    irm := { s.irm with timer := s.irm.advance.timer }
    dcu := { s.dcu with genCount := s.dcu.advance.genCount, genMicros := s.dcu.advance.genMicros }
    acu := { s.acu with tick := s.acu.advance.tick }
    bi := { s.bi with
      timer := nextTimer s.bi.timer, line := s.tick.bi.line, rx := s.tick.bi.rx
      tx := { s.bi.tx with micros := s.bi.tx.advance.micros }
      slotBefore := s.bi.endedSlot, timerInstant := s.bi.nextInstant, epochNow := false } } := by
  have acu : s.acu.advance = { s.acu with tick := s.acu.advance.tick } := by rw [AimUnit.advance_eq]
  have tx : s.bi.tx.advance = { s.bi.tx with micros := s.bi.tx.advance.micros } := by rw [Transmitter.advance_eq]
  rw [← IrradianceMonitor.advance_frame, ← DefocusUnit.advance_frame, ← acu, ← tx, State.tick_running h]
  rfl

/-! ## Events that fall due -/

theorem mem_dueIf {b : Bool} {c i : Instr} : c ∈ dueIf b i ↔ b = true ∧ c = i := by
  cases b <;> simp [dueIf]

/-- A microsecond queues the tick of a mark's epoch start, where it is still due, and every event of every group. -/
theorem State.mem_tick {s : State} (h : s.inReset = false) (c : Instr) : c ∈ s.tick.pending ↔
    c ∈ s.markTickDue ∨ ∃ g ∈ s.dueGroups (Config.lineLevel s.draws s.drive), c ∈ g := by
  rw [State.tick_running h, List.mem_append, mem_orderGroups]

/-- A group other than those of the axes is queued whole. -/
theorem State.mem_tick_of_group {s : State} (h : s.inReset = false) {c : Instr} (g : List Instr)
    (hg : g ∈ [s.wrapDue, s.slotDue, s.windowDue, s.tickDue, s.beginDue,
      s.transmitDue (Config.lineLevel s.draws s.drive), s.generationDue, s.irradianceDue]) (hc : c ∈ g) :
    c ∈ s.tick.pending := by
  refine (State.mem_tick h c).2 (.inr ⟨g, ?_, hc⟩)
  simp only [State.dueGroups, List.mem_append, List.mem_cons, List.not_mem_nil, or_false] at hg ⊢
  tauto

/-- R87: the own wrap falls due at the end of the timer. -/
theorem State.epochStart_due {s : State} (h : s.inReset = false) (late : 1999999 ≤ s.bi.timer) :
    ∃ b, Instr.epochStart b ∈ s.tick.pending := by
  have wrap : ∃ b, Instr.epochStart b ∈ s.wrapDue := by
    rw [State.wrapDue, if_pos late]
    split
    · exact ⟨true, by simp⟩
    · exact ⟨false, by simp⟩
  obtain ⟨b, mem⟩ := wrap
  exact ⟨b, State.mem_tick_of_group h s.wrapDue (by simp) mem⟩

theorem State.wrapDue_of_lt {s : State} (h : s.bi.timer < 1999999) : s.wrapDue = [] := if_neg (by omega)

/-- R87, R95: a slot boundary, with the build at that of the own slot. -/
theorem State.slotStart_due {s : State} (h : s.inReset = false) {k : Nat} (hk : k ≤ 399)
    (boundary : s.bi.timer + 1 = 5000 * k) :
    Instr.slotStart k ∈ s.tick.pending ∧ (s.running = true → k = s.sc.number → Instr.build ∈ s.tick.pending) := by
  have slot : s.slotDue = .slotStart k :: dueIf (s.running && k == s.sc.number) .build := by
    have number : (s.bi.timer + 1) / 5000 = k := by omega
    simp only [State.slotDue, number]
    exact if_pos (by omega)
  have queued := fun c (mem : c ∈ s.slotDue) => State.mem_tick_of_group h s.slotDue (by simp) mem
  rw [slot] at queued
  exact ⟨queued _ (by simp), fun run own => queued _ (by simp [mem_dueIf, run, own])⟩

theorem State.markWindowClose_due {s : State} (h : s.inReset = false) (opened : s.bi.markWindow = true)
    (at_999 : s.bi.timer = 999) : Instr.markWindowClose ∈ s.tick.pending :=
  State.mem_tick_of_group h s.windowDue (by simp) (mem_dueIf.2 ⟨by simp [opened, at_999], rfl⟩)

theorem State.frameBegin_due {s : State} (h : s.inReset = false) (built : s.bi.tx.phase = .built)
    (at_100 : s.bi.timer + 1 = 5000 * s.sc.number + 100) : Instr.frameBegin ∈ s.tick.pending :=
  State.mem_tick_of_group h s.beginDue (by simp) (mem_dueIf.2 ⟨by simp [built, at_100], rfl⟩)

/-- R96: the end of the last bit. -/
theorem State.transmitCompletion_due {s : State} (h : s.inReset = false) (sending : s.bi.tx.phase = .sending)
    (last : s.bi.tx.micros + 1 = 20 * s.bi.tx.bytes.length) : Instr.transmitCompletion ∈ s.tick.pending := by
  refine State.mem_tick_of_group h (s.transmitDue (Config.lineLevel s.draws s.drive)) (by simp) ?_
  rw [State.transmitDue, if_pos sending]
  exact List.mem_append_right _ (mem_dueIf.2 ⟨by simp [last], rfl⟩)

/-- R19: a whole number of AIM_PERIODs. -/
theorem State.aimTick_due {s : State} (h : s.inReset = false) {k : Nat} (run : s.running = true)
    (scheduled : s.acu.scheduled = true) (idle : s.acu.tick = none) (due : s.acu.due = none)
    (at_k : s.cfg.tickAt k = true) (boundary : s.bi.timer + 1 = 1000 * k) :
    Instr.aimTick k s.firstStop ∈ s.tick.pending := by
  refine State.mem_tick_of_group h s.tickDue (by simp) ?_
  have ms : (s.bi.timer + 1) / 1000 = k := by omega
  have in_epoch : k < 2000 := by
    simp only [StationConfig.tickAt, Bool.and_eq_true, decide_eq_true_eq] at at_k
    exact at_k.2
  have whole : s.bi.timer < 1999999 ∧ (s.bi.timer + 1) % 1000 = 0 := by omega
  simp only [State.tickDue, idle, mem_dueIf, ms]
  simp [due, run, scheduled, at_k, whole]

/-- R21: a tick in progress ends by 2 ms. -/
theorem State.tickEnd_due {s : State} (h : s.inReset = false) {k : TickProgress} (busy : s.acu.tick = some k)
    (turns : k.turn < 8) (late : 1990 ≤ k.micros) : Instr.aimTick 0 8 ∈ s.tick.pending := by
  refine State.mem_tick_of_group h s.tickDue (by simp) ?_
  have stop : s.turnStop k = 8 := if_pos late
  simp only [State.tickDue, busy, stop, mem_dueIf]
  simp [turns]

theorem Axis.stepDue_iff (a : Axis) : a.stepDue = true ↔ a.period ≠ 0 ∧ a.counter ≤ 1 := by
  simp [Axis.stepDue]

/-- R44: the step of a running generator whose counter reaches 0. -/
theorem State.axisStep_due {s : State} (h : s.inReset = false) {i : Fin 8} {a : AxisId}
    (due : (s.helios[i].axis a).stepDue = true) : Instr.axisStep i a ∈ s.tick.pending := by
  refine (State.mem_tick h _).2 (.inr ⟨dueIf (s.helios[i].axis a).stepDue (.axisStep i a), ?_, mem_dueIf.2 ⟨due, rfl⟩⟩)
  refine List.mem_append_right _ (List.mem_flatMap.2 ⟨i, List.mem_finRange i, ?_⟩)
  cases a <;> simp [Helio.axis]

theorem State.windowEnd_due {s : State} (h : s.inReset = false) (runs : s.irm.running = true)
    (last : s.irm.timer = 249999) : Instr.windowEnd ∈ s.tick.pending :=
  State.mem_tick_of_group h s.irradianceDue (by simp)
    (mem_dueIf.2 ⟨by simp [IrradianceMonitor.windowOver, runs, last], rfl⟩)

theorem State.generationEnd_due {s : State} (h : s.inReset = false) (runs : s.dcu.generating = true)
    (half : s.dcu.genMicros = 1) (last : s.dcu.genCount = 1) : Instr.generationEnd ∈ s.tick.pending :=
  State.mem_tick_of_group h s.generationDue (by simp) (mem_dueIf.2 ⟨by simp [runs, half, last], rfl⟩)

theorem State.frameEvent_ne_aimTick (s : State) (raw : RawFrame) (k stop : Nat) : s.frameEvent raw ≠ .aimTick k stop := by
  simp only [State.frameEvent]
  (repeat' split) <;> nofun

/-- R19: before the first epoch start after a reset no tick falls due. -/
theorem State.no_tick_before_epoch {s : State} (h : s.inReset = false) (blank : s.acu = .blank) (early : s.bi.timer < 1999999)
    (k stop : Nat) : Instr.aimTick k stop ∉ s.tick.pending := by
  have tick : s.tickDue = [] := by simp [State.tickDue, blank, AimUnit.blank, dueIf]
  rw [State.mem_tick h, State.markTickDue_of_not_due (by rw [blank]; rfl)]
  rintro (none | ⟨g, hg, hc⟩)
  · cases none
  simp only [State.dueGroups, State.wrapDue_of_lt early, tick, List.mem_append, List.mem_cons, List.not_mem_nil,
    or_false] at hg
  obtain (rfl | rfl | rfl | rfl | rfl | rfl | rfl | rfl | rfl | rfl) | steps := hg
  · cases hc
  · simp only [State.slotDue] at hc
    split at hc <;> simp [mem_dueIf] at hc
  · simp [State.windowDue, mem_dueIf] at hc
  · cases hc
  · simp [State.beginDue, mem_dueIf] at hc
  · simp only [State.transmitDue] at hc
    split at hc <;> simp [mem_dueIf] at hc
  · simp [State.generationDue, mem_dueIf] at hc
  · simp [State.irradianceDue, mem_dueIf] at hc
  · simp only [State.bitDue] at hc
    (repeat' split at hc) <;> simp at hc
  · simp only [State.frameDue, mem_dueIf] at hc
    exact s.frameEvent_ne_aimTick _ k stop hc.2.symm
  · obtain ⟨i, -, hi⟩ := List.mem_flatMap.1 steps
    obtain rfl | rfl : g = _ ∨ g = _ := by simpa using hi
    all_goals simp [mem_dueIf] at hc

/-- Settles O3: a step on an empty queue is one microsecond, which advances each clock and queues what falls due. -/
theorem idleMicrosecond : Obligations.IdleMicrosecond := by
  intro s empty
  refine ⟨s.tick, step_nil empty, State.tick_inReset, fun h => ?_⟩
  have frame := State.tick_frame h
  have timer : s.tick.bi.timer = nextTimer s.bi.timer := congrArg (fun t : State => t.bi.timer) frame
  have counter : ∀ (i : Fin 8) (a : AxisId), (s.tick.helios[i].axis a).counter = _ := fun i a =>
    (congrArg Axis.counter (State.tick_axis h i a)).trans (Axis.advance_counter _)
  have dcu : s.tick.dcu = s.dcu.advance := (congrArg State.dcu frame).trans s.dcu.advance_frame.symm
  have acu : s.tick.acu.tick = s.acu.advance.tick := congrArg (fun t : State => t.acu.tick) frame
  have irm : s.tick.irm.timer = s.irm.advance.timer := congrArg (fun t : State => t.irm.timer) frame
  have tx : s.tick.bi.tx.micros = s.bi.tx.advance.micros := congrArg (fun t : State => t.bi.tx.micros) frame
  have ended : s.tick.bi.slotBefore = s.bi.endedSlot := congrArg (fun t : State => t.bi.slotBefore) frame
  have draws : s.tick.draws = s.draws + 1 := congrArg State.draws frame
  have instant : s.tick.bi.timerInstant = s.bi.nextInstant := congrArg (fun t : State => t.bi.timerInstant) frame
  have bits := s.dcu.advance_cases
  rw [← dcu] at bits
  obtain ⟨first, second, quiet⟩ := bits
  refine ⟨fun early => timer.trans (if_pos early), fun late => State.epochStart_due h late.ge,
    fun k _ hk => State.slotStart_due h hk, State.markWindowClose_due h, State.frameBegin_due h,
    State.transmitCompletion_due h, fun k run scheduled idle due period whole _ hk boundary => ?_,
    fun e idle due => ⟨s.firstStop, State.tick_markTick h due idle⟩, fun k => State.tickEnd_due h,
    State.no_tick_before_epoch h, fun i a runs low => State.axisStep_due h ((Axis.stepDue_iff _).2 ⟨runs, low⟩),
    fun i a runs high => (counter i a).trans (if_pos ⟨runs, high⟩), State.windowEnd_due h, State.generationEnd_due h,
    fun i a still => (counter i a).trans (if_neg (by omega)), irm.trans s.irm.advance_timer,
    tx.trans (congrArg Transmitter.micros s.bi.tx.advance_eq), first, second, quiet,
    acu.trans (congrArg AimUnit.tick s.acu.advance_eq), ended.trans s.bi.endedSlot_eq, instant,
    fun late => timer.trans (if_neg (by omega)), draws, State.tick_helio h, ?_⟩
  · have at_k : s.cfg.tickAt k = true := by simp [StationConfig.tickAt, period, whole, hk]
    exact ⟨s.firstStop, State.aimTick_due h run scheduled idle due at_k boundary⟩
  · rw [timer, draws, irm, dcu, acu, tx, ended, instant]
    exact frame

end Sys2Proof.Machine
end

section
/-! What a change of the station state or of the sources, the turns of a tick and a tick of an epoch start leave of the
station (R20 to R23, R65, R68, R97, R100, R116, R118, R185 to R191). -/

namespace Sys2Proof.Machine

/-! ## Levels -/

theorem LevelFrame.refl (h : Helio) : LevelFrame h h := rfl

theorem LevelFrame.trans {h h' h'' : Helio} (a : LevelFrame h h') (b : LevelFrame h' h'') : LevelFrame h h'' := by
  unfold LevelFrame at *
  exact b.trans (by rw [a])

/-! ## What every part of an epoch start leaves -/

/-- From one state to another, the station beside its heliostats, levels, own frame, state, windows and latches: of the sources
STANDBY RX is as it was, of the Reference Store all but the night count, and of the Bus Interface all but what the end of an
own frame takes (R97, R101). -/
structure State.EpochKept (s t : State) : Prop where
  rest : t = { s with
    helios := t.helios, src := t.src, bi := t.bi, rs := t.rs, irm := t.irm, fa := t.fa, sc := t.sc, au := t.au }
  bus : t.bi = { s.bi with
    outcomes := t.bi.outcomes, reportCarried := t.bi.reportCarried, tx := t.bi.tx, rx := t.bi.rx
    counters := { s.bi.counters with aborts := t.bi.counters.aborts } }
  records : t.rs = { s.rs with nightCount := t.rs.nightCount }
  standbyRx : t.src.standbyRx = s.src.standbyRx

namespace State.EpochKept

variable {s t u : State}

theorem refl (s : State) : State.EpochKept s s := ⟨rfl, rfl, rfl, rfl⟩

theorem trans (a : State.EpochKept s t) (b : State.EpochKept t u) : State.EpochKept s u where
  rest := b.rest.trans (by rw [a.rest])
  bus := b.bus.trans (by rw [a.bus])
  records := b.records.trans (by rw [a.records])
  standbyRx := b.standbyRx.trans a.standbyRx

theorem change {f : State → State} (k : State.EpochKept s (f s)) : State.EpochKept s (s.change f) := by
  rw [State.change_eq]
  exact ⟨congrArg (State.withAu · (s.change f).au) k.rest, k.bus, k.records, k.standbyRx⟩

/-- Any change of the heliostats, the windows, the state and the latches, and of the sources beside STANDBY RX. -/
theorem of_levels (s : State) (v : Vector Helio 8) {src : Sources} (e : src.standbyRx = s.src.standbyRx)
    (irm : IrradianceMonitor) (sc : StationController) (au : AlertUnit) :
    State.EpochKept s { s with helios := v, src := src, irm := irm, sc := sc, au := au } := ⟨rfl, rfl, rfl, e⟩

theorem cutFrame (s : State) : State.EpochKept s s.cutFrame := by
  obtain ⟨-, e⟩ | ⟨-, e⟩ | ⟨-, e⟩ := s.cutFrame_cases <;> rw [e]
  · exact refl s
  · exact ⟨rfl, rfl, rfl, rfl⟩
  · exact ⟨rfl, rfl, rfl, rfl⟩

theorem acu (k : State.EpochKept s t) : t.acu = s.acu := by rw [k.rest]
theorem cfg (k : State.EpochKept s t) : t.cfg = s.cfg := by rw [k.rest]
theorem sun (k : State.EpochKept s t) : t.rs.sun = s.rs.sun := by rw [k.records]
theorem epoch (k : State.EpochKept s t) : t.bi.epoch = s.bi.epoch := by rw [k.bus]

/-- R113, R114: a sun evaluation finds the same. -/
theorem evalSun (k : State.EpochKept s t) (offset : Nat) : t.evalSun offset = s.evalSun offset := by
  simp only [State.evalSun, RefStore.selected, k.sun, k.epoch]

end State.EpochKept

/-! ## A change of the station state (R161, R185 to R191) -/

/-- A change of the station state or of the sources, with the levels and the end of the own frame that it brings: the night
count is as it was, and so is a heliostat beside its level, targets, placement and LIMIT. -/
structure State.Governed (s t : State) : Prop extends State.EpochKept s t where
  nightCount : t.rs.nightCount = s.rs.nightCount
  levels : ∀ i : Fin 8, LevelFrame s.helios[i] t.helios[i]

namespace State.Governed

variable {s t u : State}

theorem refl (s : State) : State.Governed s s := ⟨.refl s, rfl, fun _ => .refl _⟩

theorem trans (a : State.Governed s t) (b : State.Governed t u) : State.Governed s u :=
  ⟨a.toEpochKept.trans b.toEpochKept, b.nightCount.trans a.nightCount, fun i => (a.levels i).trans (b.levels i)⟩

theorem change {f : State → State} (k : State.Governed s (f s)) : State.Governed s (s.change f) :=
  ⟨k.toEpochKept.change, by simpa using k.nightCount, by simpa using k.levels⟩

theorem withSc (s : State) (sc : StationController) : State.Governed s { s with sc := sc } :=
  ⟨.of_levels s _ rfl _ _ _, rfl, fun _ => .refl _⟩

theorem setSources (s : State) (f : Sources → Sources) (e : (f s.src).standbyRx = s.src.standbyRx) :
    State.Governed s (s.setSources f) :=
  ⟨.of_levels s _ e _ _ _, rfl, fun i => by
    simp only [Fin.getElem_fin, State.setSources_helio]
    exact Helio.reengage_frame ..⟩

theorem discardFrame_levels (s : State) (i : Fin 8) : LevelFrame s.helios[i] s.discardFrame.helios[i] := by
  simp only [Fin.getElem_fin, State.discardFrame_helio]
  rfl

theorem cutFrame (s : State) : State.Governed s s.cutFrame := by
  have kept := State.EpochKept.cutFrame s
  obtain ⟨-, e⟩ | ⟨-, e⟩ | ⟨-, e⟩ := s.cutFrame_cases <;> rw [e] at kept ⊢
  · exact refl s
  · exact ⟨kept, rfl, discardFrame_levels s⟩
  · exact ⟨kept, rfl, discardFrame_levels s⟩

theorem toState (s : State) (new : StationState) : State.Governed s (s.toState new) := by
  have moved : State.Governed s { s with sc := { s.sc with state := new }, irm := s.irm.follow s.sc.state new } :=
    ⟨.of_levels s _ rfl _ _ _, rfl, fun _ => .refl _⟩
  simp only [State.toState]
  split
  · exact moved
  · exact moved.trans (cutFrame _)

theorem becomeSilent (s : State) : State.Governed s s.becomeSilent := by
  have moved := toState s .silent
  simp only [State.becomeSilent]
  generalize s.toState .silent = t at moved
  exact moved.trans ((withSc t _).trans (setSources _ _ rfl))

theorem becomeIsolated (s : State) : State.Governed s s.becomeIsolated := by
  have moved := toState s .isolated
  simp only [State.becomeIsolated]
  generalize s.toState .isolated = t at moved
  exact moved.trans ((withSc t _).trans (setSources _ _ rfl))

theorem becomeNight (s : State) : State.Governed s s.becomeNight := (toState s .night).trans (setSources _ _ rfl)

theorem leaveIsolated (s : State) : State.Governed s s.leaveIsolated := (toState s _).trans (setSources _ _ rfl)

theorem otherwiseDecided (s : State) : State.Governed s s.otherwiseDecided := by
  simp only [State.otherwiseDecided]
  split
  · split
    · exact (withSc s { s.sc with listen := false }).trans (toState _ .operating)
    · exact withSc s _
  · exact withSc s _
  · exact withSc s _
  · split
    · exact leaveIsolated s
    · exact refl s
  all_goals exact refl s

/-- R185: the tests of an epoch start. -/
theorem stationTests (s : State) : State.Governed s s.stationTests := by
  simp only [State.stationTests]
  split_ifs
  · exact becomeSilent s
  · exact becomeIsolated s
  · exact (withSc s _).trans (becomeNight _)
  · exact otherwiseDecided s

end State.Governed

/-! ## Turns (R21, R62) -/

/-- From one state to another only the heliostats and the latches change. -/
def State.Turned (s t : State) : Prop := t = { s with helios := t.helios, au := t.au }

namespace State.Turned

variable {s t u : State}

theorem trans (a : State.Turned s t) (b : State.Turned t u) : State.Turned s u := by
  unfold State.Turned at *
  exact b.trans (by rw [a])

theorem change {f : State → State} (k : State.Turned s (f s)) : State.Turned s (s.change f) := by
  unfold State.Turned at *
  rw [State.change_eq]
  exact congrArg (State.withAu · (s.change f).au) k

theorem kept (k : State.Turned s t) : State.EpochKept s t := by
  rw [k]
  exact .of_levels s _ rfl _ _ _

theorem takeTurns (sun : Vec3) (l : List (Fin 8)) (s : State) : State.Turned s (s.takeTurns sun l) := by
  induction l generalizing s with
  | nil => exact rfl
  | cons i rest ih => exact (change (f := fun s => s.takeTurn sun i) rfl).trans (ih _)

theorem rehomeAll (s : State) : State.Turned s s.rehomeAll := by
  refine List.foldlRecOn (motive := State.Turned s) _ _ rfl fun t k i _ => k.trans ?_
  simp only [State.rehomeOne]
  split <;> exact rfl

theorem dawnRehome (s : State) : State.Turned s s.dawnRehome := by
  simp only [State.dawnRehome]
  split
  · exact rehomeAll s
  · exact rfl

end State.Turned

/-- R21: what a tick that goes on leaves. -/
theorem State.continueTick_frame (s : State) (k : TickProgress) (stop : Nat) : s.continueTick k stop = { s with
    helios := (s.continueTick k stop).helios, au := (s.continueTick k stop).au
    acu := { s.acu with tick := if 8 ≤ max k.turn stop then none else some { k with turn := max k.turn stop } } } := by
  have turned : State.Turned s (s.takeTurns k.sun (turnsBetween k.turn stop)) := .takeTurns ..
  simp only [State.continueTick]
  generalize s.takeTurns k.sun (turnsBetween k.turn stop) = t at turned
  rw [turned]

/-- R21: a tick in progress takes all that is left of its turns. -/
theorem State.finishTick_frame (s : State) : s.finishTick =
    { s with helios := s.finishTick.helios, au := s.finishTick.au, acu := { s.acu with tick := none } } := by
  simp only [State.finishTick]
  split
  · rename_i k _
    have whole := s.continueTick_frame k 8
    rwa [if_pos (by omega)] at whole
  · rename_i idle
    rw [← idle]

theorem State.finishTick_of_idle {s : State} (idle : s.acu.tick = none) : s.finishTick = s := by
  simp only [State.finishTick, idle]

/-! ## A tick taken whole (R20, R23, R116, R118, R190) -/

/-- R20, R21: the turns of a tick that is taken whole end it. -/
theorem State.beginTurns_turned {s : State} (idle : s.acu.tick = none) (sun : Vec3) : State.Turned s (s.beginTurns sun 8) := by
  simp only [State.beginTurns]
  split
  · have whole := s.continueTick_frame { sun := sun, turn := 0, micros := 0 } 8
    rwa [if_pos (Nat.le_max_right 0 8), ← idle] at whole
  · exact rfl

/-- R118, R190: a dawn. -/
theorem State.EpochKept.dawn (s : State) : State.EpochKept s s.dawn := by
  have count : State.EpochKept s { s with rs := { s.rs with nightCount := 0 } } := ⟨rfl, rfl, rfl, rfl⟩
  simp only [State.dawn]
  generalize ({ s with rs := { s.rs with nightCount := 0 } } : State) = t at count
  refine count.trans ((Turned.change (Turned.dawnRehome t)).kept.trans ?_)
  generalize t.change State.dawnRehome = u
  have withdrawn : State.Governed u (u.change fun s => s.setSources fun src => { src with stowNight := false }) :=
    .change (.setSources _ _ rfl)
  refine withdrawn.toEpochKept.trans ?_
  generalize (u.change fun s => s.setSources fun src => { src with stowNight := false }) = v
  exact (Governed.change (Governed.toState v .operating)).toEpochKept

theorem State.Governed.updateSunSource (s : State) (lost : Bool) : State.Governed s (s.updateSunSource lost) := by
  simp only [State.updateSunSource]
  split
  · exact .refl s
  · exact .setSources s _ rfl

theorem State.updateSunSource_sc (s : State) (lost : Bool) : (s.updateSunSource lost).sc = s.sc := by
  simp only [State.updateSunSource]
  split <;> rfl

/-- R20, R23, R116, R118: a tick taken whole, where none is in progress: a dawn alone changes the night count. -/
theorem State.evaluateTick_kept {s : State} (idle : s.acu.tick = none) (sun : Option Vec3) :
    State.EpochKept s (s.evaluateTick sun 8) ∧
      (s.sc.state ≠ .night → (s.evaluateTick sun 8).rs.nightCount = s.rs.nightCount) := by
  have updated : State.Governed s (s.change fun s => s.updateSunSource sun.isNone) := .change (.updateSunSource s _)
  have state : (s.change fun s => s.updateSunSource sun.isNone).sc = s.sc := by
    rw [State.change_sc, State.updateSunSource_sc]
  simp only [State.evaluateTick]
  generalize (s.change fun s => s.updateSunSource sun.isNone) = t at updated state
  have rests : t.acu.tick = none := by rw [updated.acu, idle]
  split
  · exact ⟨updated.toEpochKept, fun _ => updated.nightCount⟩
  · rename_i v
    split
    · rename_i met
      have dawn := State.EpochKept.dawn t
      have turned := State.beginTurns_turned (s := t.dawn) (by rw [dawn.acu, rests]) v
      refine ⟨updated.toEpochKept.trans (dawn.trans turned.kept), fun day => absurd ?_ day⟩
      simp only [State.dawnMet, Bool.and_eq_true, beq_iff_eq] at met
      rw [← state, met.1]
    · have turned := State.beginTurns_turned rests v
      exact ⟨updated.toEpochKept.trans turned.kept, fun _ =>
        (congrArg (fun u : State => u.rs.nightCount) turned).trans updated.nightCount⟩

end Sys2Proof.Machine
end

section
/-! An epoch start by an own wrap (R87, R93, R94, R98, R99, R112, R117, R120, R150, R151): what it hands to the blocks, the tick
of its instant and the tests. -/

namespace Sys2Proof.Machine

/-! ## What an epoch start hands to the blocks -/

/-- R93: a slot start counts, and sets BUS-LOST as the count reaches 400. -/
theorem State.countSlot_eq (s : State) : s.countSlot = { s with bi := { s.bi with
    quietSlots := min (s.bi.quietSlots + 1) 400, busLost := s.bi.busLost || decide (400 ≤ s.bi.quietSlots + 1) } } := by
  have reached : 400 ≤ min (s.bi.quietSlots + 1) 400 ↔ 400 ≤ s.bi.quietSlots + 1 := by omega
  simp only [State.countSlot, State.busLostTest, reached]
  split <;> simp [*]

/-- R120, R121: the age test of the receiver record. -/
theorem State.rxStaleTest_eq (s : State) : ∃ v : Vector Helio 8, (∀ i : Fin 8, LevelFrame s.helios[i] v[i]) ∧
    s.rxStaleTest = { s with
      helios := v, src := { s.src with standbyRx := s.src.standbyRx || s.receiverStale }
      rs := { s.rs with receiver := if s.receiverStale then none else s.rs.receiver } } := by
  cases stale : s.receiverStale with
  | false => exact ⟨s.helios, fun _ => .refl _, by simp [State.rxStaleTest, stale]⟩
  | true =>
    refine ⟨s.rxStaleTest.helios, fun i => ?_, ?_⟩
    · simp only [State.rxStaleTest, stale, if_true, Fin.getElem_fin, State.setSources_helio]
      exact Helio.reengage_frame ..
    · simp only [State.rxStaleTest, stale, if_true, Bool.or_true]
      rfl

theorem nextNightCount_eq (count : Nat) (nightSu : Int) (v : Option Vec3) :
    nextNightCount count nightSu v = nightAfter count nightSu v := by
  cases v <;> rfl

/-- What an epoch start hands to the blocks before its tick and the tests. -/
structure State.EpochHanded (s t : State) : Prop where
  rest : t = { s with helios := t.helios, src := t.src, bi := t.bi, rs := t.rs, pt := t.pt, au := t.au }
  bus : t.bi = { s.bi with
    quietSlots := min (s.bi.quietSlots + 1) 400, busLost := s.bi.busLost || decide (400 ≤ s.bi.quietSlots + 1)
    collisionRun := if s.bi.collisionMark then min (s.bi.collisionRun + 1) 3 else 0, collisionMark := false }
  sun : ∀ k : Fin 8, t.rs.sun[k] = expireSun s.bi.epoch s.cfg.sunHorizon s.rs.sun[k]
  receiver : t.rs.receiver = if s.receiverStale then none else s.rs.receiver
  standbyRx : t.src.standbyRx = (s.src.standbyRx || s.receiverStale)
  nightCount : t.rs.nightCount = nightAfter s.rs.nightCount s.cfg.nightSu (t.evalSun 0)
  peers : t.pt = s.pt.atEpoch s.cfg.peerAgeMax s.bi.epoch
  levels : ∀ i : Fin 8, LevelFrame s.helios[i] t.helios[i]

theorem State.handEpoch_handed (s : State) : State.EpochHanded s s.handEpoch := by
  have changed : ∀ (t : State) (f : State → State), ∃ au, t.change f = { f t with au := au } :=
    fun t f => ⟨_, t.change_eq f⟩
  obtain ⟨au, counted⟩ := changed s State.countSlot
  simp only [State.handEpoch, counted, State.countSlot_eq]
  obtain ⟨au', tested⟩ := changed (State.expireSuns _) State.rxStaleTest
  obtain ⟨v, levels, stale⟩ := State.rxStaleTest_eq (State.expireSuns _)
  rw [tested, stale]
  exact ⟨rfl, rfl, fun k => by simp [State.nightEvaluation, State.expireSuns, BusInterface.settleRun], rfl, rfl,
    nextNightCount_eq .., rfl, levels⟩

/-! ## The tick of an epoch start (R19, R20, R116) -/

/-- R19: with an AIM_PERIOD a tick falls at every epoch start. -/
theorem State.epochStartTick_first {s : State} (scheduled : s.acu.scheduled = true) : s.epochStartTick true =
    if s.cfg.aimPeriod = 0 then s.leaveTickDue
    else (s.leaveTickDue.tickTaken 0).evaluateTick (s.leaveTickDue.tickSun 0) 8 := by
  have test : (s.leaveTickDue.acu.scheduled && s.leaveTickDue.cfg.tickAt 0) = true ↔ s.cfg.aimPeriod ≠ 0 := by
    show (s.acu.scheduled && s.cfg.tickAt 0) = true ↔ _
    simp [scheduled, StationConfig.tickAt]
  simp only [State.epochStartTick, if_true, State.startTick, test, ite_not]

/-- R19, R20, R116: the tick of an epoch start is left due with what its evaluation found, or is taken whole. -/
theorem State.epochStartTick_kept {s : State} (idle : s.acu.tick = none) (scheduled : s.acu.scheduled = true) (first : Bool) :
    let t := s.epochStartTick first
    State.EpochKept { s with acu := t.acu } t ∧
      (first = false ∨ s.sc.state ≠ .night → t.rs.nightCount = s.rs.nightCount) ∧ t.acu.scheduled = true ∧
      (first = false → t = s.leaveTickDue) ∧
      (first = true → s.cfg.aimPeriod ≠ 0 → t.acu = { tick := none, due := none, scheduled := true }) := by
  have due : ∀ t : State, t = s.leaveTickDue → State.EpochKept { s with acu := t.acu } t ∧
      t.rs.nightCount = s.rs.nightCount ∧ t.acu.scheduled = true := by
    rintro t rfl
    exact ⟨.refl _, rfl, scheduled⟩
  cases first with
  | false =>
    obtain ⟨kept, count, sched⟩ := due (s.epochStartTick false) rfl
    exact ⟨kept, fun _ => count, sched, fun _ => rfl, nofun⟩
  | true =>
    have tick := State.epochStartTick_first scheduled
    by_cases period : s.cfg.aimPeriod = 0
    · rw [if_pos period] at tick
      obtain ⟨kept, count, sched⟩ := due _ tick
      exact ⟨kept, fun _ => count, sched, nofun, fun _ some => absurd period some⟩
    · rw [if_neg period] at tick
      obtain ⟨kept, count⟩ := State.evaluateTick_kept (s := s.leaveTickDue.tickTaken 0) idle (s.leaveTickDue.tickSun 0)
      rw [← tick] at kept count
      have acu : (s.epochStartTick true).acu = { tick := none, due := none, scheduled := true } := by
        rw [kept.acu, ← idle, ← scheduled]
        rfl
      refine ⟨?_, fun day => count (day.resolve_left nofun), by rw [acu], nofun, fun _ _ => acu⟩
      rw [kept.acu]
      exact kept

/-! ## An epoch start of a running station -/

/-- What an epoch start makes of a running station whose Bus Interface is in the new epoch. -/
structure State.EpochMade (s t : State) (first : Bool) : Prop where
  rest : t = { s with
    helios := t.helios, src := t.src, bi := t.bi, rs := t.rs, pt := t.pt, irm := t.irm, fa := t.fa, sc := t.sc, au := t.au
    acu := t.acu }
  bus : t.bi = { s.bi with
    quietSlots := min (s.bi.quietSlots + 1) 400, busLost := s.bi.busLost || decide (400 ≤ s.bi.quietSlots + 1)
    collisionRun := if s.bi.collisionMark then min (s.bi.collisionRun + 1) 3 else 0, collisionMark := false
    heardEpoch := false, heardOwnSlot := false
    outcomes := t.bi.outcomes, reportCarried := t.bi.reportCarried, tx := t.bi.tx, rx := t.bi.rx
    counters := { s.bi.counters with aborts := t.bi.counters.aborts } }
  sun : ∀ k : Fin 8, t.rs.sun[k] = expireSun s.bi.epoch s.cfg.sunHorizon s.rs.sun[k]
  receiver : t.rs.receiver = if s.receiverStale then none else s.rs.receiver
  standbyRx : t.src.standbyRx = (s.src.standbyRx || s.receiverStale)
  nightCount : first = false ∨ s.sc.state ≠ .night →
    t.rs.nightCount = nightAfter s.rs.nightCount s.cfg.nightSu (t.evalSun 0)
  peers : t.pt = s.pt.atEpoch s.cfg.peerAgeMax s.bi.epoch
  scheduled : t.acu.scheduled = true
  tickLeft : first = false → t.acu = { tick := none, due := some (t.evalSun 0), scheduled := true }
  tickTaken : first = true → s.cfg.aimPeriod ≠ 0 → t.acu = { tick := none, due := none, scheduled := true }
  levels : first = false → s.acu.tick = none → ∀ i : Fin 8, LevelFrame s.helios[i] t.helios[i]

/-- R21: before an epoch start hands anything over, the tick timer restarts and a tick in progress ends. -/
theorem State.scheduleTicks_finishTick (s : State) : ∃ (v : Vector Helio 8) (au : AlertUnit),
    s.scheduleTicks.finishTick = { s with helios := v, au := au, acu := { s.acu with tick := none, scheduled := true } } ∧
      (s.acu.tick = none → v = s.helios) :=
  ⟨_, _, s.scheduleTicks.finishTick_frame, fun idle => by
    rw [State.finishTick_of_idle (s := s.scheduleTicks) idle]
    rfl⟩

theorem State.makeEpochStart_made {s : State} (run : s.running = true) (first : Bool) :
    State.EpochMade s (s.makeEpochStart first) first := by
  have parts : s.makeEpochStart first = (s.scheduleTicks.finishTick.handEpoch.epochStartTick first).testEpoch := if_pos run
  obtain ⟨v, au, finished, same⟩ := s.scheduleTicks_finishTick
  rw [parts, finished]
  have handed := State.handEpoch_handed { s with helios := v, au := au, acu := { s.acu with tick := none, scheduled := true } }
  generalize State.handEpoch _ = q at handed
  have acu : q.acu = { s.acu with tick := none, scheduled := true } := by rw [handed.rest]
  obtain ⟨ticked, count, scheduled, left, taken⟩ :=
    State.epochStartTick_kept (s := q) (by rw [acu]) (by rw [acu]) first
  generalize q.epochStartTick first = r at ticked count scheduled left taken
  have tested : State.Governed r (r.change State.stationTests) := .change (.stationTests r)
  simp only [State.testEpoch]
  generalize r.change State.stationTests = u at tested
  have kept : State.EpochKept { q with acu := r.acu } u := ticked.trans tested.toEpochKept
  have eval : ∀ w : State, w.rs = u.rs → w.bi.epoch = u.bi.epoch → w.evalSun 0 = q.evalSun 0 := by
    intro w rs epoch
    have found : u.evalSun 0 = q.evalSun 0 := kept.evalSun 0
    rw [← found]
    simp only [State.evalSun, rs, epoch]
  have cfg : q.cfg = s.cfg := by rw [handed.rest]
  have state : q.sc = s.sc := by rw [handed.rest]
  refine ⟨?_, ?_, fun k => ?_, ?_, ?_, fun day => ?_, ?_, ?_, fun b => ?_, fun b period => ?_, fun b idle i => ?_⟩
  · rw [kept.rest, handed.rest]
  · simp only [BusInterface.clearHeard]
    rw [kept.bus, handed.bus]
  · exact (by rw [kept.sun] : u.rs.sun[k] = q.rs.sun[k]).trans (handed.sun k)
  · exact (by rw [kept.records] : u.rs.receiver = q.rs.receiver).trans handed.receiver
  · exact kept.standbyRx.trans handed.standbyRx
  · rw [eval { u with bi := u.bi.clearHeard } rfl rfl]
    exact (tested.nightCount.trans (count (by rwa [state]))).trans handed.nightCount
  · exact (by rw [kept.rest] : u.pt = q.pt).trans handed.peers
  · exact (by rw [kept.acu] : u.acu.scheduled = r.acu.scheduled).trans scheduled
  · rw [eval { u with bi := u.bi.clearHeard } rfl rfl]
    refine kept.acu.trans ?_
    simp only [left b, State.leaveTickDue, acu]
  · exact kept.acu.trans (taken b (by rwa [cfg]))
  · have unchanged : r.helios = q.helios := by rw [left b]; rfl
    have first_levels := handed.levels i
    rw [← unchanged] at first_levels
    rw [← same idle]
    exact first_levels.trans (tested.levels i)

/-! ## From the epoch that ends to the new one (R87, R98) -/

/-- R87, R98: of one state, another in the new epoch, the own slot settled and no block having acted. -/
structure State.EpochBegun (s p : State) : Prop where
  rest : p = { s with helios := p.helios, bi := p.bi, fa := p.fa, au := p.au }
  epoch : p.bi.epoch = s.bi.epoch + 1
  quietSlots : p.bi.quietSlots = s.bi.quietSlots
  busLost : p.bi.busLost = s.bi.busLost
  collisionRun : p.bi.collisionRun = s.bi.collisionRun
  collisionMark : p.bi.collisionMark = s.collidedNow

/-- R150: both ways of a set at an epoch start. -/
theorem PeerTable.atEpoch_way (pt : PeerTable) (maxAge : Nat) (now : BitVec 32) (i : Fin 32) (way1 : Bool) :
    (pt.atEpoch maxAge now).sets[i].lru = pt.sets[i].lru ∧
      (pt.atEpoch maxAge now).sets[i].way way1 = match pt.sets[i].way way1 with
        | none => none
        | some e => if maxAge < e.age + 1 then none else some { e with age := e.age + 1 } := by
  simp only [PeerTable.atEpoch, Fin.getElem_fin, getElem_mapEach]
  generalize pt.sets[i.val] = st
  refine ⟨rfl, ?_⟩
  have aged : ∀ e, expireEntry maxAge (olderEntry e) = match e with
      | none => none
      | some e => if maxAge < e.age + 1 then none else some { e with age := e.age + 1 } := by
    intro e
    cases e <;> rfl
  cases way1
  · exact aged st.way0
  · exact aged st.way1

/-- An epoch start made of a station in the new epoch is one of the station before. -/
theorem State.EpochMade.started {s p t : State} {first : Bool} (made : State.EpochMade p t first)
    (begun : State.EpochBegun s p) : EpochStarted s t first := by
  have cfg : p.cfg = s.cfg := by rw [begun.rest]
  have rs : p.rs = s.rs := by rw [begun.rest]
  have src : p.src = s.src := by rw [begun.rest]
  have pt : p.pt = s.pt := by rw [begun.rest]
  have sc : p.sc = s.sc := by rw [begun.rest]
  unfold EpochStarted
  intro now stale
  have same : p.receiverStale = stale := by
    simp only [State.receiverStale, rs, cfg, begun.epoch, stale]
    cases s.rs.receiver <;> rfl
  have standby : t.src.standbyRx = (s.src.standbyRx || stale) := by rw [made.standbyRx, src, same]
  have receiver : t.rs.receiver = if stale then none else s.rs.receiver := by rw [made.receiver, same, rs]
  refine ⟨?_, ?_, ?_, ?_, ?_, ?_, fun k => ?_, receiver, fun yes => ?_, fun no => ?_, fun i way1 => ?_, ?_, fun day => ?_,
    made.tickLeft, fun b period => made.tickTaken b (by rwa [cfg])⟩
  · rw [made.bus, begun.quietSlots]
  · rw [made.bus, begun.quietSlots, begun.busLost]
  · rw [made.bus, begun.collisionMark, begun.collisionRun]
  · rw [made.bus]
  · rw [made.bus]
  · rw [made.bus]
  · have aged := made.sun k
    rw [rs, cfg, begun.epoch] at aged
    refine aged.trans ?_
    cases s.rs.sun[k] <;> rfl
  · rw [standby, yes, Bool.or_true]
  · rw [standby, no, Bool.or_false]
  · have way := PeerTable.atEpoch_way p.pt p.cfg.peerAgeMax p.bi.epoch i way1
    rw [← made.peers, pt, cfg] at way
    refine ⟨way.1, way.2.trans ?_⟩
    cases s.pt.sets[i].way way1 <;> rfl
  · rw [made.peers, pt, begun.epoch]
    rfl
  · rw [made.nightCount (by rwa [sc]), rs, cfg]

/-! ## An own wrap (R87) -/

/-- R98: the end of the own slot settles its mismatch, if it stands. -/
theorem State.settleOwnSlot_eq (s : State) : s.settleOwnSlot = { s with bi := { s.bi with
    inOwnSlot := false, mismatch := s.settleOwnSlot.bi.mismatch, collisionMark := s.collidedNow
    counters := { s.bi.counters with collisions := s.settleOwnSlot.bi.counters.collisions } } } := by
  cases own : s.bi.inOwnSlot with
  | false =>
    have settled : s.settleOwnSlot = s := if_neg (by simp [own])
    rw [settled]
    simp only [State.collidedNow, own, Bool.false_and, Bool.or_false]
    rw [← own]
  | true =>
    have counted : s.collidedNow = (s.bi.collisionMark || s.collisionCounts) := by
      simp only [State.collidedNow, State.collisionCounts, own, Bool.true_and]
    simp only [State.settleOwnSlot, own, if_true, counted]
    cases s.collisionCounts <;> rfl

/-- R87: the own wrap as it stands before any block acts: the timer returned to 0 in a new epoch, the mark window open. -/
def State.wrapped (s : State) : State :=
  { s.settleOwnSlot with bi := { s.settleOwnSlot.bi.newEpoch with markWindow := true } }

/-- R87, R98: all that an own wrap leaves as it was before any block acts. -/
theorem State.wrapped_frame (s : State) : s.wrapped = { s with bi := { s.wrapped.bi with
    quietSlots := s.bi.quietSlots, busLost := s.bi.busLost, heardEpoch := s.bi.heardEpoch
    heardOwnSlot := s.bi.heardOwnSlot, collisionRun := s.bi.collisionRun } } := by
  have settled := s.settleOwnSlot_eq
  simp only [State.wrapped, BusInterface.newEpoch]
  generalize s.settleOwnSlot = t at settled
  rw [settled]

theorem State.wrapped_begun (s : State) : State.EpochBegun s s.wrapped := by
  have settled := s.settleOwnSlot_eq
  simp only [State.wrapped, BusInterface.newEpoch]
  generalize s.settleOwnSlot = t at settled
  constructor <;> rw [settled]

theorem State.wrap_eq (s : State) (first : Bool) : s.wrap first = s.wrapped.makeEpochStart first := rfl

/-- What the Bus Interface keeps of an epoch start's instant through all that the blocks make of it. -/
theorem State.EpochMade.instant {p t : State} {first : Bool} (made : State.EpochMade p t first) :
    t.bi.timer = p.bi.timer ∧ t.bi.epoch = p.bi.epoch ∧ t.bi.epochNow = p.bi.epochNow ∧
      t.bi.markWindow = p.bi.markWindow ∧ t.bi.inOwnSlot = p.bi.inOwnSlot ∧ t.bi.slotBefore = p.bi.slotBefore ∧
      t.bi.counters.resyncs = p.bi.counters.resyncs := by
  rw [made.bus]
  exact ⟨rfl, rfl, rfl, rfl, rfl, rfl, rfl⟩

/-- R87, R98: the instant of an own wrap. -/
theorem State.wrapped_instant (s : State) : s.wrapped.bi.timer = 0 ∧ s.wrapped.bi.epoch = s.bi.epoch + 1 ∧
    s.wrapped.bi.epochNow = true ∧ s.wrapped.bi.markWindow = true ∧ s.wrapped.bi.inOwnSlot = false ∧
    s.wrapped.bi.slotBefore = some { number := s.bi.timer / 5000, past := some s.bi.tx.begunNow } ∧
    s.wrapped.bi.counters.resyncs = s.bi.counters.resyncs := by
  have settled := s.settleOwnSlot_eq
  refine ⟨rfl, ?_, rfl, rfl, ?_, ?_, ?_⟩
  all_goals
    simp only [State.wrapped, BusInterface.newEpoch]
    rw [settled]

/-- R87, R181, R183: in LOADING and CONFIG-FAULT an own wrap makes the tick timer's start alone. -/
theorem State.wrap_of_not_running {s : State} (h : s.running = false) (first : Bool) :
    s.wrap first = { s.wrapped with acu := { s.acu with scheduled := true } } := by
  have sc : s.wrapped.sc = s.sc := by rw [s.wrapped_begun.rest]
  have acu : s.wrapped.acu = s.acu := by rw [s.wrapped_begun.rest]
  have stopped : s.wrapped.scheduleTicks.running = false := (State.running_congr sc).trans h
  rw [State.wrap_eq, State.makeEpochStart, if_neg (by simp [stopped]), ← acu]
  rfl

theorem execEpochStart_of_cut {s : State} (cut : s.bi.timerInstant = .cut) (first : Bool) :
    exec (.epochStart first) s = .next s :=
  congrArg _ (if_pos cut)

theorem execEpochStart_of_not_cut {s : State} (reset : s.inReset = false) (cut : s.bi.timerInstant ≠ .cut) (first : Bool) :
    exec (.epochStart first) s = .next (s.wrap first) := by
  refine congrArg _ ((if_neg cut).trans (if_neg ?_))
  simp [reset]

/-- Settles O25: the new epoch begins, and the blocks make of it what State.EpochMade says, or nothing before a load. -/
theorem ownWrapStartsAnEpoch : Obligations.OwnWrapStartsAnEpoch := by
  intro s b reset
  refine ⟨fun cut => execEpochStart_of_cut cut b, fun cut => ⟨s.wrap b, execEpochStart_of_not_cut reset cut b, ?_⟩⟩
  have begun := s.wrapped_begun
  obtain ⟨timer, epoch, now, window, slot, before, resyncs⟩ := s.wrapped_instant
  cases loaded : s.sc.state.loaded with
  | false =>
    have whole := State.wrap_of_not_running (s := s) (by simp [State.running, loaded]) b
    rw [whole]
    refine ⟨timer, epoch, now, window, slot, before, resyncs, rfl, fun _ => ?_, nofun, ?_⟩
    · exact congrArg (fun t : State => { t with acu := { s.acu with scheduled := true } }) s.wrapped_frame
    · rw [begun.rest]
  | true =>
    have run : s.running = true := (State.running_iff s).2 ⟨reset, loaded⟩
    have made := State.makeEpochStart_made (s := s.wrapped) (by rw [begun.rest]; exact run) b
    rw [← State.wrap_eq] at made
    generalize s.wrap b = t at made
    obtain ⟨timer', epoch', now', window', slot', before', resyncs'⟩ := made.instant
    refine ⟨timer'.trans timer, epoch'.trans epoch, now'.trans now, window'.trans window, slot'.trans slot,
      before'.trans before, resyncs'.trans resyncs, made.scheduled, nofun,
      fun _ => ⟨made.started begun, fun first idle i => ?_⟩, ?_⟩
    · have levels := made.levels first (by rw [begun.rest]; exact idle) i
      rwa [show s.wrapped.helios = s.helios by rw [s.wrapped_frame]] at levels
    · rw [made.rest, begun.rest]

end Sys2Proof.Machine
end

section
/-! One axis by itself (R44 to R52, R55, R56): a move that starts, a counted step, a written target, a stop at once, and the
counted step of each drive state. -/

namespace Sys2Proof.Machine

/-! ## Moves (R47, R48, R52) -/

theorem Axis.remaining_eq (a : Axis) :
    a.remaining = if a.dir = .pos then a.target - a.position else a.position - a.target := by
  cases d : a.dir <;> simp [Axis.remaining, d]

/-- R48: a start from REST is the start of a move as the statements spell it out. -/
theorem Axis.startMove_of_rest {a : Axis} (rest : a.drive = .rest) : a.startMove = moveStarted a := by
  have same : ({ a with drive := .rest } : Axis) = a := by rw [← rest]
  simp only [Axis.startMove, moveStarted, Axis.remaining_eq]
  by_cases arrived : a.target = a.position
  · rw [if_pos arrived, if_pos arrived, same]
  rw [if_neg arrived, if_neg arrived]
  have distance : (if (if a.position < a.target then Dir.pos else Dir.neg) = .pos then a.target - a.position
      else a.position - a.target) = ((a.target - a.position).natAbs : Int) := by
    by_cases up : a.position < a.target
    · rw [if_pos up, if_pos rfl]; omega
    · rw [if_neg up, if_neg (by decide)]; omega
  rw [distance]
  by_cases far : a.prm.fineWindow < (a.target - a.position).natAbs
  · rw [if_pos (Int.ofNat_lt.2 far), if_pos far, if_pos far]
    rfl
  · rw [if_neg (fun n => far (Int.ofNat_lt.1 n)), if_neg far, if_neg far]
    rfl

/-- R52: a reversal stops at once where the axis can stop. -/
theorem Axis.enterReversing_eq (a : Axis) : a.enterReversing =
    if a.prm.startPeriod ≤ a.period ∧ a.stepActive = false then moveStarted { a with period := 0, drive := .rest }
    else { a with drive := .reversing } := by
  rw [Axis.enterReversing, Axis.startMove_of_rest rfl]

theorem Axis.writeTarget_rest {a : Axis} {target : Int} (rest : a.drive = .rest) :
    a.writeTarget target = ({ a with target := target } : Axis).startMove := by
  simp only [Axis.writeTarget, rest]

/-- R47: in REVERSING and in homing only the register changes. -/
theorem Axis.writeTarget_other {a : Axis} {target : Int}
    (other : a.drive = .reversing ∨ a.drive = .homeBackoff ∨ a.drive = .homeSearch) :
    a.writeTarget target = { a with target := target } := by
  rcases other with d | d | d <;> simp only [Axis.writeTarget, d]

/-- R47, R51: a target that leaves nothing of a move reverses it. -/
theorem Axis.writeTarget_behind {a : Axis} {target : Int}
    (move : a.drive = .trackMode ∨ a.drive = .slewAccel ∨ a.drive = .slewDecel)
    (behind : ({ a with target := target } : Axis).remaining ≤ 0) :
    a.writeTarget target = ({ a with target := target } : Axis).enterReversing := by
  rcases move with d | d | d
  all_goals
    simp only [d] at behind
    simp only [Axis.writeTarget, d, if_pos behind]

/-- R51: a target ahead of a slew changes the register alone. -/
theorem Axis.writeTarget_slew {a : Axis} {target : Int} (slew : a.drive = .slewAccel ∨ a.drive = .slewDecel)
    (ahead : ¬({ a with target := target } : Axis).remaining ≤ 0) : a.writeTarget target = { a with target := target } := by
  rcases slew with d | d
  all_goals
    simp only [d] at ahead
    simp only [Axis.writeTarget, d, if_neg ahead]

/-- R51: a target ahead of a TRACK-MODE move keeps it, or makes it a slew. -/
theorem Axis.writeTarget_track {a : Axis} {target : Int} (track : a.drive = .trackMode)
    (ahead : ¬({ a with target := target } : Axis).remaining ≤ 0) : a.writeTarget target =
      if (a.prm.fineWindow : Int) < ({ a with target := target } : Axis).remaining then
        { a with target := target, drive := .slewAccel, period := a.prm.startPeriod }
      else { a with target := target } := by
  simp only [track] at ahead
  simp only [Axis.writeTarget, track, if_neg ahead]

/-! ## A counted step (R46) -/

/-- R46: the take-up steps owed as a step counts. -/
def Axis.owed (a : Axis) : Nat := if a.dir = a.lastDir then a.takeUp else a.prm.backlash

/-- R46: the position after a counted step. -/
def Axis.stepped (a : Axis) : Int :=
  if a.owed = 0 then fitPosition (if a.dir = .pos then a.position + 1 else a.position - 1) else a.position

/-- R46: all that a counted step writes. -/
theorem Axis.countStep_eq (a : Axis) : a.countStep = { a with
    position := a.stepped, lastDir := a.dir, takeUp := a.owed - 1
    phaseCount := if a.homingPhase then a.phaseCount + 1 else a.phaseCount } := by
  cases d : a.dir <;> simp [Axis.countStep, Axis.stepped, Axis.owed, d]

/-! ## Stops (R45, R59) -/

theorem Axis.stepActive_iff (a : Axis) :
    a.stepActive = true ↔ a.period ≠ 0 ∧ 1 ≤ a.counter ∧ a.counter ≤ a.prm.pulseWidth := by
  simp [Axis.stepActive, and_assoc]

/-- R45: a stop at once: the pulse in progress ends and counts. -/
theorem Axis.stopNow_eq (a : Axis) : a.stopNow =
    if a.period ≠ 0 ∧ 1 ≤ a.counter ∧ a.counter ≤ a.prm.pulseWidth then { a.countStep with period := 0, counter := 0 }
    else { a with period := 0 } := by
  by_cases pulse : a.stepActive = true
  · have active := a.stepActive_iff.1 pulse
    rw [if_pos active, Axis.stopNow, if_neg active.1, if_pos pulse]
  · rw [if_neg (mt a.stepActive_iff.2 pulse), Axis.stopNow, if_neg pulse]
    split
    · rename_i stopped
      rw [← stopped]
    · rfl

/-- R55, R56: the first phase of a homing, by the level of the index input. -/
theorem Axis.beginHoming_eq (a : Axis) : a.beginHoming = { a with
    drive := if a.index = true then .homeBackoff else .homeSearch
    dir := if a.index = true then .pos else .neg
    phaseCount := 0, period := a.prm.homePeriod
    counter := if a.counter = 0 then a.prm.homePeriod else a.counter } := by
  cases i : a.index <;> simp [Axis.beginHoming, Axis.startGenerator, i]

/-! ## The step of each drive state (R44, R49, R50, R52, R55, R56) -/

/-- R44: an axis after a counted step whose decision leaves a drive state and a period: the reload follows. -/
def Axis.goesOn (a : Axis) (d : DriveState) (p : Nat) : Axis := { a.countStep with drive := d, period := p, counter := p }

theorem Axis.countStep_position (a : Axis) : a.countStep.position = a.stepped := by rw [Axis.countStep_eq]

/-- R47: the remaining after a counted step. -/
theorem Axis.countStep_remaining (a : Axis) : a.countStep.remaining =
    if a.dir = .pos then a.target - a.stepped else a.stepped - a.target := by
  rw [Axis.remaining_eq, Axis.countStep_position]
  rfl

theorem Axis.remaining_eq_zero (a : Axis) : a.remaining = 0 ↔ a.position = a.target := by
  rw [Axis.remaining_eq]
  split <;> omega

theorem Axis.countStep_arrived (a : Axis) : a.countStep.remaining = 0 ↔ a.stepped = a.target := by
  rw [Axis.remaining_eq_zero, Axis.countStep_position]
  rfl

/-- R44: a step and its decision, the counter at 0. -/
theorem Axis.stepAndDecide_eq (a : Axis) : a.stepAndDecide = ({ a.countStep with counter := 0 } : Axis).stepDecision := rfl

/-- R49: a TRACK-MODE move arrives or goes on. -/
theorem Axis.step_trackMode {a : Axis} (d : a.drive = .trackMode) : a.stepAndDecide.reload =
    if a.stepped = a.target then a.goesOn .rest 0 else a.goesOn .trackMode a.period := by
  have decision : a.stepAndDecide = if a.countStep.remaining = 0 then ({ a.countStep with counter := 0 } : Axis).arrive
      else { a.countStep with counter := 0 } := by
    simp only [Axis.stepAndDecide_eq, Axis.stepDecision, Axis.countStep_drive, d]
    rfl
  rw [decision]
  simp only [a.countStep_arrived]
  split
  · rfl
  · simp only [Axis.goesOn, ← d]
    rfl

/-- R50: a ceiling of a quotient, as a comparison of products. -/
theorem Axis.le_decelSteps (a : Axis) (h : a.prm.rampDec ≠ 0) (left : Int) :
    left ≤ a.decelSteps ↔ (left - 1) * a.prm.rampDec < (a.prm.startPeriod : Int) - a.period := by
  have pos : (0 : Int) < a.prm.rampDec := by omega
  have floor : ((a.period : Int) - a.prm.startPeriod) / a.prm.rampDec < 1 - left ↔
      (a.period : Int) - a.prm.startPeriod < (1 - left) * a.prm.rampDec := Int.ediv_lt_iff_lt_mul pos
  have flip : (left - 1) * (a.prm.rampDec : Int) = -((1 - left) * a.prm.rampDec) := by ring
  rw [Axis.decelSteps, flip]
  omega

/-- R50: the decision of a slew. -/
theorem Axis.slewDecision_eq (a : Axis) : a.slewDecision =
    if a.position = a.target then a.arrive
    else if a.prm.rampDec = 0 then { a with drive := .slewAccel, period := a.prm.startPeriod }
    else if (a.remaining - 1) * a.prm.rampDec < (a.prm.startPeriod : Int) - a.period then
      { a with drive := .slewDecel, period := min (a.period + a.prm.rampDec) a.prm.startPeriod }
    else { a with drive := .slewAccel, period := max (a.period - a.prm.rampDec) a.prm.slewPeriod } := by
  simp only [Axis.slewDecision, a.remaining_eq_zero]
  by_cases flat : a.prm.rampDec = 0
  · simp only [if_pos flat]
  · simp only [if_neg flat, a.le_decelSteps flat]

/-- R50: a slew arrives, goes on faster, or goes on slower. -/
theorem Axis.step_slew {a : Axis} (d : a.drive = .slewAccel ∨ a.drive = .slewDecel) : a.stepAndDecide.reload =
    if a.stepped = a.target then a.goesOn .rest 0
    else if a.prm.rampDec = 0 then a.goesOn .slewAccel a.prm.startPeriod
    else if (a.countStep.remaining - 1) * a.prm.rampDec < (a.prm.startPeriod : Int) - a.period then
      a.goesOn .slewDecel (min (a.period + a.prm.rampDec) a.prm.startPeriod)
    else a.goesOn .slewAccel (max (a.period - a.prm.rampDec) a.prm.slewPeriod) := by
  have decision : a.stepAndDecide = ({ a.countStep with counter := 0 } : Axis).slewDecision := by
    rcases d with d | d <;> simp only [Axis.stepAndDecide_eq, Axis.stepDecision, Axis.countStep_drive, d]
  rw [decision, Axis.slewDecision_eq, ← Axis.countStep_position]
  simp only [apply_ite Axis.reload]
  rfl

/-- R52: the decision of REVERSING. -/
theorem Axis.step_reversing {a : Axis} (d : a.drive = .reversing) : a.stepAndDecide =
    if a.prm.startPeriod ≤ a.period then moveStarted { a.countStep with drive := .rest, period := 0, counter := 0 }
    else { a.countStep with period := min (a.period + a.prm.rampDec) a.prm.startPeriod, counter := 0 } := by
  have decision : a.stepAndDecide = ({ a.countStep with counter := 0 } : Axis).reversingDecision := by
    simp only [Axis.stepAndDecide_eq, Axis.stepDecision, Axis.countStep_drive, d]
  rw [decision, Axis.reversingDecision, Axis.startMove_of_rest rfl]
  rfl

/-- R55, R56: a homing phase whose end the step does not bring goes on. -/
theorem Axis.step_phase {a : Axis} (d : a.drive = .homeSearch ∨ a.drive = .homeBackoff ∧ a.index = true) :
    a.stepAndDecide = { a.countStep with counter := 0 } := by
  rcases d with d | ⟨d, i⟩
  · simp only [Axis.stepAndDecide_eq, Axis.stepDecision, Axis.countStep_drive, d]
  · simp only [Axis.stepAndDecide_eq, Axis.stepDecision, Axis.countStep_drive, d, Axis.countStep_index, i, if_true]

/-- R55, R56: a back-off that has left the index begins the search. -/
theorem Axis.step_backoff_left {a : Axis} (d : a.drive = .homeBackoff) (i : a.index = false) : a.stepAndDecide =
    { a.countStep with counter := 0, drive := .homeSearch, dir := .neg, phaseCount := 0, period := a.prm.homePeriod } := by
  simp only [Axis.stepAndDecide_eq, Axis.stepDecision, Axis.countStep_drive, d, Axis.countStep_index, i,
    Bool.false_eq_true, if_false]
  rfl

/-! ## A TRACK-MODE move arrives (R49) -/

/-- A TRACK-MODE move with its take-up spent and `n` steps remaining, its position and target in 32 bits. -/
structure Axis.Approaching (a : Axis) (n : Nat) : Prop where
  drive : a.drive = .trackMode
  onward : a.dir = a.lastDir
  spent : a.takeUp = 0
  remaining : a.remaining = n
  position : Signed32 a.position
  target : Signed32 a.target

theorem fitPosition_of_signed {x : Int} (h : Signed32 x) : fitPosition x = x := if_pos h

section Approach

variable {a : Axis} {n : Nat}

theorem Axis.Approaching.stepped_fit (h : a.Approaching n) :
    a.stepped = fitPosition (if a.dir = .pos then a.position + 1 else a.position - 1) := by
  have owed : a.owed = 0 := by rw [Axis.owed, if_pos h.onward, h.spent]
  exact if_pos owed

/-- R46: each counted step of an approach is one position nearer. -/
theorem Axis.Approaching.stepped_eq (h : a.Approaching (n + 1)) :
    a.stepped = if a.dir = .pos then a.position + 1 else a.position - 1 := by
  have left := h.remaining
  obtain ⟨pl, ph⟩ := h.position
  obtain ⟨tl, th⟩ := h.target
  rw [Axis.remaining_eq] at left
  rw [h.stepped_fit]
  refine fitPosition_of_signed ?_
  split at left
  · rename_i up; rw [if_pos up]; exact ⟨by omega, by omega⟩
  · rename_i up; rw [if_neg up]; exact ⟨by omega, by omega⟩

theorem Axis.Approaching.countStep_remaining (h : a.Approaching (n + 1)) : a.countStep.remaining = n := by
  have left := h.remaining
  rw [Axis.remaining_eq] at left
  rw [Axis.countStep_remaining, h.stepped_eq]
  split at left
  · rename_i up; rw [if_pos up, if_pos up]; omega
  · rename_i up; rw [if_neg up, if_neg up]; omega

/-- R49: with steps still remaining the approach goes on. -/
theorem Axis.Approaching.step (h : a.Approaching (n + 2)) :
    a.stepAndDecide.reload.Approaching (n + 1) ∧ a.stepAndDecide.reload.target = a.target := by
  have left : a.countStep.remaining = ((n + 1 : Nat) : Int) := h.countStep_remaining
  have ahead : a.stepped ≠ a.target := fun e => by rw [a.countStep_arrived.2 e] at left; omega
  have position : Signed32 a.countStep.position := by
    rw [Axis.countStep_position, h.stepped_fit]
    exact fitPosition_signed _
  rw [Axis.step_trackMode h.drive, if_neg ahead]
  exact ⟨⟨rfl, rfl, by show a.countStep.takeUp = 0; rw [Axis.countStep_eq]; simp [Axis.owed, h.onward, h.spent], left, position,
    h.target⟩, rfl⟩

/-- R49: the last step arrives. -/
theorem Axis.Approaching.arrives (h : a.Approaching 1) : a.stepAndDecide.reload.drive = .rest ∧
    a.stepAndDecide.reload.position = a.target ∧ a.stepAndDecide.reload.period = 0 := by
  have here : a.stepped = a.target := a.countStep_arrived.1 h.countStep_remaining
  rw [Axis.step_trackMode h.drive, if_pos here]
  refine ⟨rfl, ?_, rfl⟩
  rw [← here, Axis.goesOn, Axis.countStep_eq]

/-- R49: an approach with `n + 1` steps remaining arrives with the last of them, and not before. -/
theorem Axis.Approaching.iterate (h : a.Approaching (n + 1)) :
    let y := (fun z : Axis => z.stepAndDecide.reload)^[n + 1] a
    y.drive = .rest ∧ y.position = a.target ∧ y.period = 0 ∧
      ∀ m, m ≤ n → ((fun z : Axis => z.stepAndDecide.reload)^[m] a).drive = .trackMode := by
  induction n generalizing a with
  | zero =>
    obtain ⟨rest, position, period⟩ := h.arrives
    refine ⟨rest, position, period, fun m hm => ?_⟩
    rw [Nat.le_zero.1 hm]
    exact h.drive
  | succ n ih =>
    obtain ⟨next, target⟩ := h.step
    obtain ⟨rest, position, period, before⟩ := ih next
    refine ⟨rest, position.trans target, period, fun m hm => ?_⟩
    cases m with
    | zero => exact h.drive
    | succ m => exact before m (Nat.le_of_succ_le_succ hm)

end Approach

/-- Settles O45: a written target by drive state; a stop and a homing by their equations; arrival by induction. -/
theorem writtenTargetsMoveAndArrive : Obligations.WrittenTargetsMoveAndArrive := by
  refine ⟨?_, ?_, ?_⟩
  · intro x target y z left stops
    have remaining : ({ x with target := target } : Axis).remaining = left := z.remaining_eq
    refine ⟨fun rest => ?_, fun track ahead near => ?_, fun track ahead far => ?_, fun slew ahead => ?_,
      fun move behind => ?_, fun other => ?_⟩
    · exact (Axis.writeTarget_rest rest).trans (Axis.startMove_of_rest rest)
    · exact (Axis.writeTarget_track track (by omega)).trans (if_neg (by omega))
    · exact (Axis.writeTarget_track track (by omega)).trans (if_pos (by omega))
    · exact Axis.writeTarget_slew slew (by omega)
    · exact (Axis.writeTarget_behind move (by omega)).trans z.enterReversing_eq
    · exact Axis.writeTarget_other other
  · intro x pulse owed stopped
    have stop : x.stopNow = stopped := by
      rw [Axis.stopNow_eq, Axis.countStep_eq]
      simp only [Axis.homingPhase_eq]
      rfl
    exact ⟨stop, by rw [Axis.halt, stop], x.beginHoming_eq⟩
  · intro n x track onward spent _ remaining pl ph tl th
    exact Axis.Approaching.iterate ⟨track, onward, spent, remaining, ⟨pl, ph⟩, ⟨tl, th⟩⟩

end Sys2Proof.Machine
end

section
/-! The rows of an axis and of a driver (R44, R53 to R59): steps, index edges, HOMEFAIL and DRIVE. -/

namespace Sys2Proof.Machine

/-! ## One heliostat replaced by an event (R68, R197) -/

theorem State.withHelio_eq_self (s : State) (i : Fin 8) : s.withHelio i s.helios[i] = s := by
  simp [State.withHelio]

/-- R197: a change is read at the state it is made of. -/
theorem State.change_congr {s : State} {f g : State → State} (e : f s = g s) : s.change f = s.change g :=
  congrArg s.observed e

theorem State.change_of_fixed {s : State} {f : State → State} (e : f s = s) : s.change f = s := by
  rw [State.change, e, State.observed]
  simp

/-- R68: an event at a heliostat whose input has just taken its level. -/
theorem State.withHelio_updateHelio (s : State) (i : Fin 8) (h : Helio) (f : Helio → Helio) :
    (s.withHelio i h).updateHelio i f = s.withHelio i ((f h).reengage s.src s.sc.state.loaded) := by
  rw [State.updateHelio, State.withHelio_self]
  exact s.withHelio_withHelio i h _

/-- An event that replaces one heliostat, of the station with an input of that heliostat at its new level. -/
theorem State.change_updateHelio_spec (s : State) (i : Fin 8) (h : Helio) (f : Helio → Helio) :
    let t := (s.withHelio i h).change fun s => s.updateHelio i f
    OthersKept s t i ∧ t.helios[i] = (f h).reengage s.src s.sc.state.loaded ∧
      t = { s with helios := t.helios, au := t.au } := by
  intro t
  have helios : t.helios = (s.withHelio i ((f h).reengage s.src s.sc.state.loaded)).helios :=
    (State.change_helios ..).trans (congrArg State.helios (s.withHelio_updateHelio i h f))
  refine ⟨fun j other => ?_, ?_, (State.change_eq ..).trans (by rw [helios, s.withHelio_updateHelio]; rfl)⟩
  · rw [helios]
    exact set_helio_other _ _ _ _ other
  · rw [helios, State.withHelio_self]

/-- R108: an event that replaces one heliostat and counts. -/
theorem State.change_count_spec {s : State} {i : Fin 8} {h y : Helio} {f : State → State} {c : Counters → Counters}
    (e : f (s.withHelio i h) = (s.withHelio i y).count c) : let t := (s.withHelio i h).change f
    OthersKept s t i ∧ t.helios[i] = y ∧ t.bi = { s.bi with counters := c s.bi.counters } ∧
      t = { s with helios := t.helios, bi := t.bi, au := t.au } := by
  intro t
  have helios : t.helios = (s.withHelio i y).helios := (State.change_helios ..).trans (by rw [e]; rfl)
  have bus : t.bi = { s.bi with counters := c s.bi.counters } := (State.change_bi ..).trans (by rw [e]; rfl)
  refine ⟨fun j other => ?_, ?_, bus, (State.change_eq ..).trans (by rw [helios, bus, e]; rfl)⟩
  · rw [helios]
    exact set_helio_other _ _ _ _ other
  · rw [helios, State.withHelio_self]

/-- R67, R68: an axis is not read by what governs its heliostat. -/
theorem Helio.setAxis_governing (h : Helio) (a : AxisId) (x : Axis) (src : Sources) (l : Bool) :
    (h.setAxis a x).governing src l = h.governing src l :=
  Helio.governing_congr src l (by simp) (by simp) (by simp) (by simp) (by simp)

theorem Helio.reengage_setAxis {h : Helio} {src : Sources} {l : Bool} (e : h.engaged = h.governing src l) (a : AxisId)
    (x : Axis) : (h.setAxis a x).reengage src l = h.setAxis a x :=
  Helio.reengage_of_engaged (by rw [Helio.setAxis_engaged, Helio.setAxis_governing, e])

/-- R6, R59: all that the first fault of a heliostat writes. -/
theorem Helio.detect_first (h : Helio) (k : HelioFault) (unfaulted : h.fault = .none) : h.detect k = { h with
    fault := k, homed := false, deferred := none, placementP := 0, homing := none, az := h.az.halt, el := h.el.halt } :=
  if_pos unfaulted

/-! ## Steps (R44, R57) -/

theorem exec_axisStep {s : State} (live : s.inReset = false) (i : Fin 8) (a : AxisId) :
    exec (.axisStep i a) s = .next (s.change fun s => s.axisStep i a) := by
  show Host.Outcome.next (if s.inReset = true then s else s.change fun s => s.axisStep i a) = _
  rw [live, if_neg Bool.false_ne_true]

/-- R44: a counter above 1 has not reached 0. -/
theorem State.axisStep_early {s : State} {i : Fin 8} {a : AxisId} (early : 1 < (s.helios[i].axis a).counter) :
    s.axisStep i a = s := by
  have idle : (s.helios[i].axis a).stepDue = false :=
    Bool.eq_false_iff.2 fun due => absurd ((Axis.stepDue_iff _).1 due).2 (Nat.not_le.2 early)
  exact if_neg (by rw [idle, Bool.and_false]; exact Bool.false_ne_true)

theorem State.axisStep_of_due {s : State} {i : Fin 8} {a : AxisId} (present : s.helios[i].cfg.present = true)
    (due : (s.helios[i].axis a).stepDue = true) : s.axisStep i a = s.updateHelio i fun x => x.stepAxis a :=
  if_pos (by rw [present, due]; rfl)

theorem Axis.stepAndDecide_still {a : Axis} (still : a.homingPhase = false) : a.stepAndDecide.homingPhase = false := by
  rcases ({ a.countStep with counter := 0 } : Axis).stepDecision_phase with ⟨-, p⟩ | ⟨p, -⟩
  · exact p
  · exact absurd (p.symm.trans still) (by decide)

section StepAxis

variable {h : Helio} {a : AxisId}

/-- R44: where HOME_MAX is not reached the step is the axis's own. -/
theorem Helio.stepAxis_of_short (short : (h.axis a).stepAndDecide.homingExpired = false) :
    h.stepAxis a = h.setAxis a (h.axis a).stepAndDecide.reload := by
  simp [Helio.stepAxis, Helio.homefailTest, short]

theorem Helio.stepAxis_of_still (still : (h.axis a).homingPhase = false) :
    h.stepAxis a = h.setAxis a (h.axis a).stepAndDecide.reload :=
  Helio.stepAxis_of_short (by simp [Axis.homingExpired, Axis.stepAndDecide_still still])

/-- R57, R59: with HOME_MAX reached the fault stops both axes, this one with its step counted. -/
theorem Helio.stepAxis_of_expired (unfaulted : h.fault = .none) (expired : (h.axis a).stepAndDecide.homingExpired = true)
    (idle : (h.axis a).stepAndDecide.counter = 0) : h.stepAxis a = (h.detect .homefail).setAxis a
      { (h.axis a).stepAndDecide with
        period := 0, counter := 0, drive := .rest, target := (h.axis a).stepAndDecide.position } := by
  have detected : (h.setAxis a (h.axis a).stepAndDecide).detect .homefail =
      (h.detect .homefail).setAxis a (h.axis a).stepAndDecide.halt := by
    cases a <;> simp [Helio.detect, Helio.setAxis, unfaulted]
  simp only [Helio.stepAxis, Helio.homefailTest, Helio.axis_setAxis, expired, if_true, detected, Helio.setAxis_setAxis,
    Axis.halt_of_idle idle]
  rfl

end StepAxis

/-- R55, R56: a step of a homing phase that goes on counts in the phase. -/
theorem Axis.step_phase_expired {a : Axis} (d : a.drive = .homeSearch ∨ a.drive = .homeBackoff ∧ a.index = true) :
    a.stepAndDecide.homingExpired = true ↔ a.prm.homeMax ≤ a.phaseCount + 1 := by
  have phase : a.homingPhase = true := a.homingPhase_eq.2 (by tauto)
  have same : a.countStep.homingPhase = a.homingPhase := rfl
  have count : a.countStep.phaseCount = a.phaseCount + 1 := by rw [Axis.countStep_eq, phase, if_pos rfl]
  rw [Axis.step_phase d]
  show (a.countStep.homingPhase && decide (a.prm.homeMax ≤ a.countStep.phaseCount)) = true ↔ _
  rw [same, phase, count, Bool.true_and, decide_eq_true_eq]

theorem Axis.step_phase_goesOn {a : Axis} (d : a.drive = .homeSearch ∨ a.drive = .homeBackoff ∧ a.index = true) :
    a.stepAndDecide.reload = a.goesOn a.drive a.period := by
  rw [Axis.step_phase d]
  rfl

/-- R52: where a reversal that can stop goes: the position stepped to, at rest there or on the way to the target. -/
theorem Axis.step_reversing_stops {a : Axis} (d : a.drive = .reversing) (stops : a.prm.startPeriod ≤ a.period) :
    a.stepAndDecide.position = a.stepped ∧ a.stepAndDecide.drive =
      if a.stepped = a.target then .rest
      else if (a.prm.fineWindow : Int) < |a.target - a.stepped| then .slewAccel else .trackMode := by
  rw [Axis.step_reversing d, if_pos stops, Axis.countStep_eq]
  simp only [moveStarted, eq_comm (a := a.target), Int.abs_eq_natAbs, Int.ofNat_lt]
  split
  · exact ⟨rfl, rfl⟩
  · exact ⟨rfl, rfl⟩

/-- Settles O44: the row is the step of the axis, which reaches the level of its heliostat by HOMEFAIL alone; then what a
step is in each drive state. -/
theorem axisStepCounts : Obligations.AxisStepCounts := by
  intro s i a live ok present h x
  have row := exec_axisStep live i a
  refine ⟨fun above => row.trans (congrArg _ (State.change_of_fixed (State.axisStep_early above))), ?_⟩
  intro runs here owed pos left counted goesOn start dec
  have due : x.stepDue = true := x.stepDue_iff.2 ⟨runs, here⟩
  have replaced := s.change_updateHelio_spec i h fun x => x.stepAxis a
  rw [State.withHelio_eq_self] at replaced
  obtain ⟨others, self, frame⟩ := replaced
  refine ⟨_, row.trans (congrArg _ (State.change_congr (State.axisStep_of_due present due))), others, frame, ?_⟩
  have own : ∀ {y : Axis}, h.stepAxis a = h.setAxis a y →
      (h.stepAxis a).reengage s.src s.sc.state.loaded = h.setAxis a y := fun e => by
    rw [e, Helio.reengage_setAxis (ok i)]
  have goes : ∀ d p, h.setAxis a (x.goesOn d p) = goesOn d p := fun d p => by
    rw [Axis.goesOn, Axis.countStep_eq]
    rfl
  have remaining : x.countStep.remaining = left := x.countStep_remaining
  rw [self]
  have still : x.homingPhase = false → (h.stepAxis a).reengage s.src s.sc.state.loaded =
      h.setAxis a x.stepAndDecide.reload := fun q => own (Helio.stepAxis_of_still q)
  have phase : x.drive = .homeSearch ∨ x.drive = .homeBackoff ∧ x.index = true → x.phaseCount + 1 < x.prm.homeMax →
      (h.stepAxis a).reengage s.src s.sc.state.loaded = goesOn x.drive x.period := fun d short => by
    have stays : x.stepAndDecide.homingExpired = false :=
      Bool.eq_false_iff.2 (mt (Axis.step_phase_expired d).1 (Nat.not_le.2 short))
    rw [own (Helio.stepAxis_of_short stays), ← goes]
    exact congrArg _ (Axis.step_phase_goesOn d)
  refine ⟨fun d => ?_, fun d => ?_, fun d slow => ?_, fun d stops => ?_, fun d short => ?_, fun d on short => ?_,
    fun d off pos => ?_, fun d reached unfaulted => ?_⟩
  · rw [still (by simp [Axis.homingPhase, d]), Axis.step_trackMode d, apply_ite (h.setAxis a), goes, goes]
    rfl
  · rw [still (by rcases d with d | d <;> simp [Axis.homingPhase, d]), Axis.step_slew d, remaining]
    simp only [apply_ite (h.setAxis a), goes]
    rfl
  · rw [still (by simp [Axis.homingPhase, d]), Axis.step_reversing d, if_neg (Nat.not_le.2 slow), ← goes, ← d]
    rfl
  · rw [still (by simp [Axis.homingPhase, d]), Helio.axis_setAxis]
    exact Axis.step_reversing_stops d stops
  · rw [phase (.inl d) short, d]
  · rw [phase (.inr ⟨d, on⟩) short, d]
  · have searches := Axis.step_backoff_left d off
    have fresh : x.stepAndDecide.homingExpired = false := by
      rw [searches]
      exact decide_eq_false (Nat.not_le.2 pos)
    rw [own (Helio.stepAxis_of_short fresh), searches, Axis.countStep_eq]
    rfl
  · have expired := (Axis.step_phase_expired d).2 reached
    have step := Axis.step_phase d
    have idle : x.stepAndDecide.counter = 0 := by rw [step]
    have stopped := (h.detect_first .homefail) unfaulted
    rw [Helio.stepAxis_of_expired unfaulted expired idle]
    have masked : ((h.detect .homefail).setAxis a { x.stepAndDecide with
        period := 0, counter := 0, drive := .rest, target := x.stepAndDecide.position }).masked s.sc.state.loaded = true :=
      Helio.masked_of_not_homed (by simp [stopped]) _
    rw [Helio.reengage_masked_axis masked, Helio.axis_setAxis, step]
    exact ⟨by simp [stopped], by simp [stopped], by simp [stopped], rfl, x.countStep_position, x.countStep_position, rfl⟩

/-! ## Index edges (R53, R56) -/

/-- R53, R56: a fall and a repeated level only show. -/
theorem exec_indexEdge_shows {s : State} {i : Fin 8} {a : AxisId} {level : Bool}
    (n : (level && !(s.helios[i].axis a).index) = false) :
    exec (.indexEdge i a level) s = .next (s.withHelio i (s.helios[i].setIndex a level)) :=
  congrArg _ (if_neg (by rw [activeHigh, n]; exact Bool.false_ne_true))

/-- R53, R56: a rising edge of a present heliostat. -/
theorem exec_indexEdge_rise {s : State} {i : Fin 8} {a : AxisId} (live : s.inReset = false)
    (present : s.helios[i].cfg.present = true) (low : (s.helios[i].axis a).index = false) :
    exec (.indexEdge i a pinHigh) s =
      .next ((s.withHelio i (s.helios[i].setIndex a true)).change fun s => s.indexRise i a) :=
  congrArg _ (if_pos (by rw [live, present, low]; rfl))

section IndexRise

variable {s : State} {i : Fin 8} {a : AxisId}

theorem State.indexRise_search (d : (s.helios[i].axis a).drive = .homeSearch) :
    s.indexRise i a = s.updateHelio i fun y => y.homingEdge a := if_pos d

theorem Axis.not_searching_of_edgeChecked {a : Axis} (checked : a.edgeChecked = true) : a.drive ≠ .homeSearch := by
  intro d
  simp [Axis.edgeChecked, Axis.travelling, d] at checked

theorem State.indexRise_unchecked (d : (s.helios[i].axis a).drive ≠ .homeSearch)
    (n : (s.helios[i].axis a).edgeChecked = false) : s.indexRise i a = s :=
  (if_neg d).trans (if_neg (Bool.eq_false_iff.1 n))

theorem State.indexRise_resync (checked : (s.helios[i].axis a).edgeChecked = true)
    (within : (s.helios[i].axis a).withinSlip = true) : s.indexRise i a =
      (s.updateHelio i fun y => y.setAxis a (y.axis a).resync).count
        fun c => { c with indexResyncs := bump c.indexResyncs } :=
  (if_neg (Axis.not_searching_of_edgeChecked checked)).trans ((if_pos checked).trans (if_pos within))

theorem State.indexRise_slip (checked : (s.helios[i].axis a).edgeChecked = true)
    (beyond : (s.helios[i].axis a).withinSlip = false) : s.indexRise i a = s.updateHelio i fun y => y.detect .slip :=
  (if_neg (Axis.not_searching_of_edgeChecked checked)).trans
    ((if_pos checked).trans (if_neg (Bool.eq_false_iff.1 beyond)))

end IndexRise

/-- R45: a stop at once does not read the index input. -/
theorem Axis.stopNow_setIndex (a : Axis) (level : Bool) :
    ({ a with index := level } : Axis).stopNow = { a.stopNow with index := level } := by
  rw [Axis.stopNow_eq, Axis.stopNow_eq]
  split <;> rfl

/-- R56: the axis that has found its index, with the input at its new level. -/
theorem Axis.finishHoming_setIndex (a : Axis) (level : Bool) : ({ a with index := level } : Axis).finishHoming =
    { a.stopNow with
      index := level, position := a.prm.indexPos, target := a.prm.indexPos, drive := .rest, lastDir := .neg } := by
  rw [Axis.finishHoming, Axis.stopNow_setIndex]

/-- R70 to R72: a recomputed level moves no axis. -/
theorem Helio.reengage_axis_keeps (h : Helio) (src : Sources) (l : Bool) (a : AxisId) :
    ((h.reengage src l).axis a).position = (h.axis a).position ∧
      ((h.reengage src l).axis a).lastDir = (h.axis a).lastDir := by
  obtain ⟨-, e⟩ | ⟨-, e⟩ := h.reengage_cases src l
  · rw [e]
    exact ⟨rfl, rfl⟩
  · rw [e]
    cases a
    all_goals
      simp only [Helio.axis, Helio.enter, Helio.writeTargets]
      repeat' split
    all_goals simp

/-- R67, R68: a homed heliostat that nothing masks is at its highest demand. -/
theorem Helio.governing_of_unmasked {h : Helio} (usable : h.usable = true) (homed : h.homed = true) (src : Sources) :
    h.governing src true = demandedLevel src h.hold.isSome := by
  simp [Helio.governing, Helio.masked, usable, homed]

/-- Settles O46: the five cases of a rising edge, each one heliostat replaced in a station whose input stands high. -/
theorem indexEdgeCases : Obligations.IndexEdgeCases := by
  intro s i a live ok present h x up off found
  refine ⟨exec_indexEdge_shows rfl, fun high => ?_, fun low => ?_⟩
  · have same : h.setIndex a true = h := by
      rw [Helio.setIndex, ← high]
      exact h.setAxis_axis a
    exact (exec_indexEdge_shows (by rw [high]; rfl)).trans (by rw [same, State.withHelio_eq_self])
  have row : exec (.indexEdge i a pinHigh) s = .next ((s.withHelio i up).change fun s => s.indexRise i a) :=
    exec_indexEdge_rise live present low
  have input : (s.withHelio i up).helios[i].axis a = { x with index := true } := by
    rw [State.withHelio_self, Helio.axis_setAxis]
  have level : up.engaged = up.governing s.src s.sc.state.loaded := by
    rw [Helio.setAxis_engaged, Helio.setAxis_governing]
    exact ok i
  refine ⟨fun checked within => ?_, fun checked beyond unfaulted => ?_, fun unchecked d => ?_, fun d isEl out => ?_,
    fun d isAz usable => ?_⟩
  · let y := up.setAxis a (up.axis a).resync
    have rise : (s.withHelio i up).indexRise i a =
        (s.withHelio i y).count fun c => { c with indexResyncs := bump c.indexResyncs } := by
      rw [State.indexRise_resync (by rw [input]; exact checked) (by rw [input]; exact decide_eq_true within),
        State.withHelio_updateHelio, Helio.reengage_setAxis level]
    obtain ⟨others, self, bus, frame⟩ := State.change_count_spec (f := fun s => s.indexRise i a) rise
    refine ⟨_, row, others, self, ?_, bus, frame⟩
    rw [self, Helio.axis_setAxis, (Axis.resync_spec _).1, Helio.axis_setAxis]
  · have rise := State.indexRise_slip (s := s.withHelio i up) (i := i) (a := a) (by rw [input]; exact checked)
      (by rw [input]; exact decide_eq_false (Nat.not_le.2 beyond))
    obtain ⟨others, self, frame⟩ := s.change_updateHelio_spec i up fun y => y.detect .slip
    exact ⟨_, row.trans (congrArg _ (State.change_congr rise)), others,
      self.trans (Helio.detect_reengage up .slip _ _ (by rw [Helio.setAxis_fault]; exact unfaulted)), frame⟩
  · exact row.trans (congrArg _ (State.change_of_fixed
      (State.indexRise_unchecked (by rw [input]; exact d) (by rw [input]; exact unchecked))))
  · subst isEl
    have homed : up.homingEdge .el = { h with el := found, az := h.az.beginHoming, homing := some .az } := by
      rw [Helio.homingEdge, show up.el.finishHoming = found from Axis.finishHoming_setIndex x true]
      rfl
    have none : h.engaged = .none := (ok i).trans (if_pos (Helio.masked_of_not_homed out _))
    obtain ⟨others, self, frame⟩ := s.change_updateHelio_spec i up fun y => y.homingEdge .el
    refine ⟨_, row.trans (congrArg _ (State.change_congr (State.indexRise_search (by rw [input]; exact d)))), others,
      self.trans ?_, frame⟩
    rw [homed]
    refine Helio.reengage_of_masked (Helio.masked_of_not_homed ?_ _) ?_ _
    · exact out
    · exact none
  · subst isAz
    have homed : up.homingEdge .az = { h with az := found, homing := none, homed := true } := by
      rw [Helio.homingEdge, show up.az.finishHoming = found from Axis.finishHoming_setIndex x true]
      rfl
    obtain ⟨others, self, frame⟩ := s.change_updateHelio_spec i up fun y => y.homingEdge .az
    rw [homed] at self
    have kept := Helio.reengage_axis_keeps { h with az := found, homing := none, homed := true } s.src s.sc.state.loaded .az
    refine ⟨_, row.trans (congrArg _ (State.change_congr (State.indexRise_search (by rw [input]; exact d)))), others,
      self, ?_, ?_, ?_, fun loaded => ?_, frame⟩
    · rw [self, Helio.reengage_homed]
    · rw [self]
      exact kept.1
    · rw [self]
      exact kept.2
    · rw [self, Helio.reengage_engaged, loaded]
      refine Helio.governing_of_unmasked ?_ rfl s.src
      exact usable

/-! ## Faults (R57 to R59) -/

theorem exec_homefail {s : State} {i : Fin 8} (live : s.inReset = false) (present : s.helios[i].cfg.present = true)
    (a : AxisId) : exec (.homefail i a) s = .next (s.change fun s => s.updateHelio i fun x => x.homefailTest a) := by
  show Host.Outcome.next (if s.inReset = true then s else s.change fun s => s.homefail i a) = _
  rw [live, if_neg Bool.false_ne_true]
  exact congrArg _ (State.change_congr (if_pos present))

/-- R58: DRVFLT only shows where it does not go active while DRVEN is. -/
theorem exec_driveFault_shows {s : State} {i : Fin 8} {level : Bool}
    (n : (activeLow level && !s.helios[i].drvflt && s.drven i) = false) :
    exec (.driveFault i level) s = .next (s.withHelio i { s.helios[i] with drvflt := activeLow level }) :=
  congrArg _ (if_neg (Bool.eq_false_iff.1 n))

theorem exec_driveFault_active {s : State} {i : Fin 8} (quiet : s.helios[i].drvflt = false) (on : s.drven i = true) :
    exec (.driveFault i pinLow) s = .next ((s.withHelio i { s.helios[i] with drvflt := true }).change
      fun s => s.updateHelio i fun x => x.detect .drive) :=
  congrArg _ (if_pos (by rw [quiet, on]; rfl))

/-- Settles O47: both rows detect a fault in one heliostat. -/
theorem faultsStopBothAxes : Obligations.FaultsStopBothAxes := by
  intro s i live _ present
  refine ⟨exec_driveFault_shows rfl, fun off => exec_driveFault_shows (by rw [off, Bool.and_false]), fun unfaulted =>
    ⟨fun a phase reached => ?_, fun on quiet => ?_⟩⟩
  · have expired : (s.helios[i].axis a).homingExpired = true := by
      rw [Axis.homingExpired, phase]
      exact decide_eq_true reached
    have test : s.helios[i].homefailTest a = s.helios[i].detect .homefail := if_pos expired
    have replaced := s.change_updateHelio_spec i s.helios[i] fun x => x.homefailTest a
    rw [State.withHelio_eq_self] at replaced
    obtain ⟨others, self, frame⟩ := replaced
    refine ⟨_, exec_homefail live present a, others, ?_, frame⟩
    rw [self, test]
    exact Helio.detect_reengage _ _ _ _ unfaulted
  · obtain ⟨others, self, frame⟩ :=
      s.change_updateHelio_spec i { s.helios[i] with drvflt := true } fun x => x.detect .drive
    exact ⟨_, exec_driveFault_active quiet on, others, self.trans (Helio.detect_reengage _ _ _ _ unfaulted), frame⟩

end Sys2Proof.Machine
end

section
/-! REHOME (R62). -/

namespace Sys2Proof.Machine

/-! ## The check of one heliostat -/

section Refusal

variable {h : Helio}

theorem Helio.rehomeRefusal_busy (homing : h.homing ≠ none) : h.rehomeRefusal = some .busy :=
  if_pos (Option.isSome_iff_ne_none.2 homing)

theorem Helio.rehomeRefusal_state (still : h.homing = none) (n : h.inService = false ∨ h.drvflt = true) :
    h.rehomeRefusal = some .state := by
  rcases n with out | fault
  · simp [Helio.rehomeRefusal, still, out]
  · simp [Helio.rehomeRefusal, still, fault]

theorem Helio.rehomeRefusal_none_iff :
    h.rehomeRefusal = none ↔ h.homing = none ∧ h.inService = true ∧ h.drvflt = false := by
  simp only [Helio.rehomeRefusal]
  split_ifs with busy out fault
  · simp [Option.isSome_iff_ne_none.1 busy]
  · simp_all
  · simp [fault]
  · simp_all

end Refusal

/-! ## REHOME of one heliostat -/

section One

variable {s : State} {hf : Byte} {i : Fin 8}

theorem State.presentIndex_ne_all (index : s.presentIndex hf = some i) : hf ≠ allHeliostats := by
  rintro rfl
  cases index

theorem rehomeEffect_refused (index : s.presentIndex hf = some i) {r : Result}
    (refusal : s.helios[i].rehomeRefusal = some r) : rehomeEffect hf s = (r, s) := by
  simp only [rehomeEffect, if_neg (State.presentIndex_ne_all index), index, refusal]

theorem rehomeEffect_taken (index : s.presentIndex hf = some i) (passes : s.helios[i].rehomeRefusal = none) :
    rehomeEffect hf s = (.done, s.updateHelio i Helio.rehome) := by
  simp only [rehomeEffect, if_neg (State.presentIndex_ne_all index), index, passes]

end One

/-- R62, R69: a heliostat that passes is left with its homing begun, at NONE. -/
theorem State.updateHelio_rehome {s : State} {i : Fin 8} (passes : s.helios[i].rehomeRefusal = none) :
    s.updateHelio i Helio.rehome = s.withHelio i (rehomed s.helios[i]) := by
  obtain ⟨-, -, quiet⟩ := Helio.rehomeRefusal_none_iff.1 passes
  rw [State.updateHelio, Helio.rehome_reengage _ _ _ quiet]
  rfl

/-! ## REHOME of all -/

/-- R62: one heliostat after a REHOME with 0xFF. -/
def Helio.rehomedIfTaken (h : Helio) : Helio :=
  if h.cfg.present = true ∧ h.rehomeRefusal = none then rehomed h else h

theorem State.rehomeOne_eq (s : State) (i : Fin 8) : s.rehomeOne i = s.withHelio i s.helios[i].rehomedIfTaken := by
  have test : (s.helios[i].cfg.present && s.helios[i].rehomeRefusal.isNone) = true ↔
      s.helios[i].cfg.present = true ∧ s.helios[i].rehomeRefusal = none := by
    rw [Bool.and_eq_true, Option.isNone_iff_eq_none]
  rw [State.rehomeOne, Helio.rehomedIfTaken]
  by_cases taken : s.helios[i].cfg.present = true ∧ s.helios[i].rehomeRefusal = none
  · rw [if_pos (test.2 taken), if_pos taken, State.updateHelio_rehome taken.2]
  · rw [if_neg (mt test.1 taken), if_neg taken, State.withHelio_eq_self]

/-- R62: the heliostats of a list are re-homed each by itself. -/
theorem State.rehome_list (l : List (Fin 8)) (d : l.Nodup) (s : State) :
    let t := l.foldl State.rehomeOne s
    t = { s with helios := t.helios } ∧
      ∀ j : Fin 8, t.helios[j] = if j ∈ l then s.helios[j].rehomedIfTaken else s.helios[j] := by
  induction l generalizing s with
  | nil => exact ⟨rfl, fun j => rfl⟩
  | cons i rest ih =>
    obtain ⟨new, d⟩ := List.nodup_cons.1 d
    obtain ⟨frame, bank⟩ := ih d (s.rehomeOne i)
    refine ⟨frame.trans ?_, fun j => (bank j).trans ?_⟩
    · rw [List.foldl_cons]
      generalize (List.foldl State.rehomeOne (s.rehomeOne i) rest).helios = v
      rw [s.rehomeOne_eq]
      rfl
    rw [s.rehomeOne_eq]
    by_cases here : j = i
    · subst here
      rw [if_neg new, if_pos List.mem_cons_self, State.withHelio_self]
    · have other : (s.withHelio i s.helios[i].rehomedIfTaken).helios[j] = s.helios[j] := set_helio_other _ _ _ _ here
      rw [other]
      simp only [List.mem_cons, here, false_or]

theorem State.rehomeAll_frame (s : State) : s.rehomeAll = { s with helios := s.rehomeAll.helios } :=
  (s.rehome_list _ (List.nodup_finRange 8)).1

theorem State.rehomeAll_helio (s : State) (j : Fin 8) : s.rehomeAll.helios[j] = s.helios[j].rehomedIfTaken :=
  ((s.rehome_list _ (List.nodup_finRange 8)).2 j).trans (if_pos (List.mem_finRange j))

/-! ## Its outcome -/

section Outcome

variable {s : State}

theorem State.mem_presentHelios {i : Fin 8} : i ∈ s.presentHelios ↔ s.helios[i].cfg.present = true := by
  simp [State.presentHelios]

theorem State.rehomeAllResult_range (absent : ∀ i : Fin 8, s.helios[i].cfg.present = false) :
    s.rehomeAllResult = .range := by
  have none : s.presentHelios = [] := List.eq_nil_iff_forall_not_mem.2 fun i m =>
    Bool.eq_false_iff.1 (absent i) (State.mem_presentHelios.1 m)
  simp [State.rehomeAllResult, none]

theorem State.rehomeAllResult_of_present {i : Fin 8} (present : s.helios[i].cfg.present = true) : s.rehomeAllResult =
    ((s.presentHelios.findSome? fun i => s.helios[i].rehomeRefusal).getD .done) := by
  have some : s.presentHelios.isEmpty = false := by
    rw [List.isEmpty_eq_false_iff]
    exact List.ne_nil_of_mem (State.mem_presentHelios.2 present)
  rw [State.rehomeAllResult, some, if_neg Bool.false_ne_true]
  cases s.presentHelios.findSome? fun i => s.helios[i].rehomeRefusal <;> rfl

theorem State.rehomeAllResult_done {i : Fin 8} (present : s.helios[i].cfg.present = true)
    (pass : ∀ j : Fin 8, s.helios[j].cfg.present = true → s.helios[j].rehomeRefusal = none) :
    s.rehomeAllResult = .done := by
  rw [State.rehomeAllResult_of_present present,
    List.findSome?_eq_none_iff.2 fun j m => pass j (State.mem_presentHelios.1 m)]
  rfl

/-- R62: the lowest present heliostat that is not taken decides. -/
theorem State.rehomeAllResult_refused {i : Fin 8} {r : Result} (present : s.helios[i].cfg.present = true)
    (refusal : s.helios[i].rehomeRefusal = some r)
    (before : ∀ j : Fin 8, j < i → s.helios[j].cfg.present = true → s.helios[j].rehomeRefusal = none) :
    s.rehomeAllResult = r := by
  obtain ⟨front, rest, split⟩ := List.append_of_mem (State.mem_presentHelios.2 present)
  have ordered : s.presentHelios.Pairwise (· < ·) := (List.pairwise_lt_finRange 8).filter _
  have front_passes : ∀ j ∈ front, s.helios[j].rehomeRefusal = none := fun j m => by
    refine before j ?_ (State.mem_presentHelios.1 (by rw [split]; exact List.mem_append_left _ m))
    rw [split] at ordered
    exact (List.pairwise_append.1 ordered).2.2 j m i List.mem_cons_self
  rw [State.rehomeAllResult_of_present present,
    List.findSome?_eq_some_iff.2 ⟨front, i, rest, split, refusal, front_passes⟩]
  rfl

end Outcome

/-- Settles O15: one heliostat by its check; all of them each by itself, with the outcome of the lowest that is not taken. -/
theorem rehomeTakesWhoPasses : Obligations.RehomeTakesWhoPasses := by
  refine ⟨?_, ?_⟩
  · intro s i run present hf h
    have index : s.presentIndex hf = some i := s.presentIndex_of_present i present
    refine ⟨fun homing => ?_, fun still n => ?_, fun still inn quiet => ?_⟩
    · exact refused_row run (rehomeEffect_refused index (Helio.rehomeRefusal_busy homing))
    · exact refused_row run (rehomeEffect_refused index (Helio.rehomeRefusal_state still n))
    · have passes : h.rehomeRefusal = none := Helio.rehomeRefusal_none_iff.2 ⟨still, inn, quiet⟩
      have e : rehomeEffect hf s = (.done, s.withHelio i (rehomed h)) :=
        (rehomeEffect_taken index passes).trans (by rw [State.updateHelio_rehome passes])
      obtain ⟨answered, latched, frame⟩ := s.takeCommand_taken 10 hf _ _ _ e run run rfl rfl
      have helios : (s.takeCommand 10 hf (rehomeEffect hf)).helios = (s.withHelio i (rehomed h)).helios := by
        rw [frame]
      refine ⟨s.rehome hf, congrArg _ (State.ifRunning_of_running run _), answered, latched, fun j other => ?_, ?_,
        frame.trans (by rw [State.rehome, helios]; rfl)⟩
      · rw [State.rehome, helios]
        exact set_helio_other _ _ _ _ other
      · rw [State.rehome, helios, State.withHelio_self]
  · intro s run
    have e : rehomeEffect 255 s = (s.rehomeAllResult, s.rehomeAll) := rfl
    have all := s.rehomeAll_frame
    obtain ⟨answered, latched, frame⟩ := s.takeCommand_taken 10 255 _ _ _ e run
      ((State.running_congr (by rw [all])).trans run) (by rw [all]) (by rw [all])
    have helios : (s.takeCommand 10 255 (rehomeEffect 255)).helios = s.rehomeAll.helios := by rw [frame]
    have outcome : ∀ r, s.rehomeAllResult = r → Answered s (s.rehome 255) 10 255 r := fun r q => q ▸ answered
    refine ⟨s.rehome 255, congrArg _ (State.ifRunning_of_running run _), latched,
      frame.trans (by rw [State.rehome, helios, all]), fun i => ?_, fun absent => ?_, fun ⟨i, present⟩ pass => ?_,
      fun i present before => ⟨fun homing => ?_, fun still n => ?_⟩⟩
    · have taken : (s.rehome 255).helios[i] = s.helios[i].rehomedIfTaken := by
        rw [State.rehome, helios, State.rehomeAll_helio]
      rw [taken, Helio.rehomedIfTaken]
      simp only [Helio.rehomeRefusal_none_iff]
      split <;> rfl
    · exact outcome _ (State.rehomeAllResult_range absent)
    · exact outcome _ (State.rehomeAllResult_done present fun j q => Helio.rehomeRefusal_none_iff.2 (pass j q))
    · exact outcome _ (State.rehomeAllResult_refused present (Helio.rehomeRefusal_busy homing) fun j lt q =>
        Helio.rehomeRefusal_none_iff.2 (before j lt q))
    · exact outcome _ (State.rehomeAllResult_refused present (Helio.rehomeRefusal_state still n) fun j lt q =>
        Helio.rehomeRefusal_none_iff.2 (before j lt q))

end Sys2Proof.Machine
end

section
/-! Engaged levels through the shared operations, the command entries, the frames and the own frame (R67, R68). -/

namespace Sys2Proof.Machine

/-! ## What an engaged level rests on -/

/-- The engaged level of a heliostat with the fields that R67 and R68 read of it. -/
def Helio.levelView (h : Helio) : Level × Bool × Bool × HelioFault × Bool × Option Steps :=
  (h.engaged, h.cfg.present, h.inService, h.fault, h.homed, h.hold)

/-- R68: a recomputed level stands at the one that governs the heliostat as the recomputation leaves it. -/
theorem Helio.reengage_settled (h : Helio) (src : Sources) (l : Bool) :
    (h.reengage src l).engaged = (h.reengage src l).governing src l := by
  rw [Helio.reengage_engaged]
  exact (Helio.governing_congr src l (by simp) (by simp) (by simp) (by simp) (by simp)).symm

/-- What the engaged levels of the station rest on. -/
def State.levelView (s : State) : Sources × StationState × Vector Helio 8 := (s.src, s.sc.state, s.helios)

/-- Every engaged level is the one that governs, as a structure that no unifier opens. -/
structure State.Levelled (s : State) : Prop where
  engaged : EngagedOk s

/-- R67: before a load every heliostat is masked, so that levels at NONE are in order. -/
theorem State.levelled_of_unloaded {s : State} (unloaded : s.sc.state.loaded = false)
    (none : ∀ i : Fin 8, s.helios[i].engaged = .none) : s.Levelled where
  engaged i := by
    rw [none i, unloaded]
    exact (if_pos rfl).symm

/-- R68: a recomputation of every level puts all of them in order. -/
theorem State.levelled_reengageAll {s : State} : s.reengageAll.Levelled where
  engaged i := by
    rw [Fin.getElem_fin, State.reengageAll_helio]
    exact Helio.reengage_settled ..

theorem State.levelled_setSources {s : State} {f : Sources → Sources} : (s.setSources f).Levelled :=
  State.levelled_reengageAll

namespace State.Levelled

variable {s : State}

/-- An operation that leaves the sources, the station's part of the mask and all that the levels rest on. -/
theorem of_views {t : State} (ok : s.Levelled) (src : t.src = s.src)
    (loaded : t.sc.state.loaded = s.sc.state.loaded)
    (views : ∀ i : Fin 8, t.helios[i].levelView = s.helios[i].levelView) : t.Levelled where
  engaged i := by
    have view := views i
    simp only [Helio.levelView, Prod.mk.injEq] at view
    obtain ⟨engaged, present, inService, fault, homed, hold⟩ := view
    rw [src, loaded, engaged, Helio.governing_congr _ _ present inService fault homed hold]
    exact ok.engaged i

/-- An operation on other registers alone. -/
theorem of_same {t : State} (ok : s.Levelled) (same : t.levelView = s.levelView) : t.Levelled := by
  simp only [State.levelView, Prod.mk.injEq] at same
  obtain ⟨src, state, helios⟩ := same
  exact ok.of_views src (by rw [state]) fun _ => by rw [helios]

/-! ## Shared operations -/

theorem change {f : State → State} (ok : (f s).Levelled) : (s.change f).Levelled :=
  ok.of_same (by simp [State.levelView])

theorem ifRunning {f : State → State} (ok : s.Levelled) (step : s.running = true → (f s).Levelled) :
    (s.ifRunning f).Levelled := by
  simp only [State.ifRunning]
  split
  · exact step ‹_›
  · exact ok

theorem updateHelio (ok : s.Levelled) {i : Fin 8} {f : Helio → Helio} : (s.updateHelio i f).Levelled where
  engaged j := by
    by_cases here : j = i
    · subst here
      rw [State.updateHelio_self]
      exact Helio.reengage_settled ..
    · rw [State.updateHelio_other _ _ _ _ here]
      exact ok.engaged j

/-- One heliostat replaced, with what its level rests on as it was. -/
theorem setHelio (ok : s.Levelled) {i : Fin 8} {h : Helio} (view : h.levelView = s.helios[i].levelView) :
    State.Levelled { s with helios := s.helios.set i h } := by
  refine ok.of_views rfl rfl fun j => ?_
  by_cases here : j = i
  · subst here
    rw [set_helio_self, view]
  · rw [set_helio_other _ _ _ _ here]

theorem discardFrame (ok : s.Levelled) : s.discardFrame.Levelled :=
  ok.of_views rfl rfl fun i => by
    rw [Fin.getElem_fin, State.discardFrame_helio]
    rfl

theorem cutFrame (ok : s.Levelled) : s.cutFrame.Levelled := by
  rcases s.cutFrame_cases with ⟨-, e⟩ | ⟨-, e⟩ | ⟨-, e⟩ <;> rw [e]
  · exact ok
  · exact ok.discardFrame
  · exact ok.discardFrame.of_same rfl

/-- A change among the states that follow a load. -/
theorem toState (ok : s.Levelled) {new : StationState} (loaded : s.sc.state.loaded = true)
    (new_loaded : new.loaded = true) : (s.toState new).Levelled := by
  have moved : State.Levelled { s with sc := { s.sc with state := new }, irm := s.irm.follow s.sc.state new } :=
    ok.of_views rfl (new_loaded.trans loaded.symm) fun _ => rfl
  simp only [State.toState]
  split
  · exact moved
  · exact moved.cutFrame

/-! ## Command entries -/

theorem takeCommand {k hf : Byte} {f : State → Result × State} (ok : (f s).2.Levelled) :
    (s.takeCommand k hf f).Levelled :=
  (change (f := fun s => (f s).2) ok).of_same rfl

theorem stationWide {f : State → Result × State} (ok : s.Levelled) {hf : Byte} (taken : (f s).2.Levelled) :
    (stationWide hf f s).2.Levelled := by
  simp only [Machine.stationWide]
  split
  · exact taken
  · exact ok

theorem stowField : (stowFieldEffect s).2.Levelled := by
  simp only [stowFieldEffect]
  exact State.levelled_setSources

theorem standbySet : (standbySetEffect s).2.Levelled := by
  simp only [standbySetEffect]
  exact State.levelled_setSources

theorem stowRelease (ok : s.Levelled) : (stowReleaseEffect s).2.Levelled := by
  simp only [stowReleaseEffect]
  split_ifs <;> dsimp only
  · exact State.levelled_setSources
  · exact ok
  · exact State.levelled_setSources
  · exact ok

theorem standbyClear (ok : s.Levelled) : (standbyClearEffect s).2.Levelled := by
  simp only [standbyClearEffect]
  split <;> dsimp only
  · exact State.levelled_setSources
  · exact ok

theorem hold (ok : s.Levelled) {hf : Byte} {t : Steps} : (holdEffect hf t s).2.Levelled := by
  simp only [holdEffect]
  split
  · exact ok
  · split <;> dsimp only
    · exact ok
    · exact ok.updateHelio

theorem holdRelease (ok : s.Levelled) {hf : Byte} : (holdReleaseEffect hf s).2.Levelled := by
  simp only [holdReleaseEffect]
  split
  · exact ok
  · split <;> dsimp only
    · exact ok
    · exact ok.updateHelio

theorem serviceOut (ok : s.Levelled) {hf : Byte} : (serviceOutEffect hf s).2.Levelled := by
  simp only [serviceOutEffect]
  split
  · exact ok
  · split <;> dsimp only
    · exact ok.updateHelio.of_same rfl
    · exact ok

theorem serviceIn (ok : s.Levelled) {hf : Byte} : (serviceInEffect hf s).2.Levelled := by
  simp only [serviceInEffect]
  split
  · exact ok
  · rename_i i _
    split_ifs <;> dsimp only
    · exact ok
    · exact ok
    · have first : (s.change fun s => s.updateHelio i Helio.takeIn).Levelled := change ok.updateHelio
      exact (change first.updateHelio).of_same rfl

theorem correct (ok : s.Levelled) {hf : Byte} {x y : Int} : (correctEffect hf x y s).2.Levelled := by
  simp only [correctEffect]
  split
  · exact ok
  · split
    · exact ok.setHelio rfl
    · exact ok

theorem rehomeAll (ok : s.Levelled) : s.rehomeAll.Levelled :=
  List.foldlRecOn (motive := State.Levelled) _ _ ok fun t ok i _ => by
    simp only [State.rehomeOne]
    split
    · exact updateHelio ok
    · exact ok

theorem rehome (ok : s.Levelled) {hf : Byte} : (rehomeEffect hf s).2.Levelled := by
  simp only [rehomeEffect]
  split
  · dsimp only
    exact ok.rehomeAll
  · split
    · exact ok
    · split <;> dsimp only
      · exact ok
      · exact ok.updateHelio

theorem activateCode (ok : s.Levelled) : s.activateCode.Levelled := by
  simp only [State.activateCode]
  split
  · exact ok
  · exact State.levelled_setSources

theorem releaseCode (ok : s.Levelled) : s.releaseCode.Levelled := by
  simp only [State.releaseCode]
  split
  · exact State.levelled_setSources
  · exact ok

theorem defocusRelease (ok : s.Levelled) : (defocusReleaseEffect s).2.Levelled := by
  simp only [defocusReleaseEffect]
  split_ifs
  · exact ok
  · exact ok.releaseCode
  · exact ok

theorem clearAlerts (ok : s.Levelled) : (clearAlertsEffect s).2.Levelled := ok.of_same rfl

theorem clearSticky (ok : s.Levelled) : (clearStickyEffect s).2.Levelled :=
  ok.of_views rfl rfl fun i => by
    simp only [clearStickyEffect, Fin.getElem_fin, getElem_mapEach]
    rfl

theorem report (ok : s.Levelled) {hf : Byte} : (reportEffect hf s).2.Levelled := by
  simp only [reportEffect]
  split
  · exact ok.of_same rfl
  · split
    · exact ok
    · exact ok.of_same rfl

end State.Levelled

/-! ## Resets (R192 to R195) -/

theorem State.levelled_softReset {s : State} : s.softReset.Levelled :=
  State.levelled_of_unloaded rfl fun i => by
    simp only [State.softReset, State.sampleStraps, Fin.getElem_fin, getElem_mapEach]
    rfl

theorem State.levelled_hardReset {s : State} : s.hardReset.Levelled :=
  State.levelled_of_unloaded rfl fun i => by
    simp only [State.hardReset, Fin.getElem_fin, getElem_mapEach]
    rfl

namespace State.Levelled

variable {s : State}

theorem loadIfReleased {t : State} (ok : t.Levelled) : (s.loadIfReleased t).Levelled := by
  rw [State.loadIfReleased_eq]
  exact ok.of_same rfl

theorem powerOnReset (ok : s.Levelled) {inForce : Bool} : (s.powerOnReset inForce).Levelled := by
  simp only [State.powerOnReset]
  split
  · exact State.levelled_hardReset
  · exact loadIfReleased (ok.of_same rfl)

theorem resetPin (ok : s.Levelled) {active : Bool} : (s.resetPin active).Levelled := by
  simp only [State.resetPin]
  split
  · exact State.levelled_hardReset
  · exact loadIfReleased (ok.of_same rfl)

theorem restart (ok : s.Levelled) {hf : Byte} : (s.restart hf).Levelled := by
  simp only [State.restart]
  split
  · exact State.levelled_softReset
  · exact ok.of_same rfl

/-! ## The end of a load (R182, R184) -/

theorem passLoad {s : State} {v : ImageValues} : (s.passLoad v).Levelled where
  engaged i := by
    obtain ⟨each, -, sc, -⟩ := s.passLoad_eq v
    rw [each i, sc]
    exact Helio.engageAtLoad_engaged ..

theorem endLoad (ok : s.Levelled) (loading : s.sc.state = .loading) {image : List Byte} :
    (s.endLoad image).Levelled := by
  simp only [State.endLoad]
  split
  · exact ok.of_views rfl (by rw [loading]; rfl) fun _ => rfl
  · exact passLoad

/-! ## Entries of a COMMAND frame and frames (R90 to R94, R102) -/

theorem takeEntry (ok : s.Levelled) {e : CommandEntry} : (s.takeEntry e).Levelled := by
  simp only [State.takeEntry]
  split
  · exact takeCommand (ok.stationWide stowField)
  · exact takeCommand (ok.stationWide ok.stowRelease)
  · exact takeCommand (ok.stationWide standbySet)
  · exact takeCommand (ok.stationWide ok.standbyClear)
  · exact takeCommand ok.hold
  · exact takeCommand ok.holdRelease
  · exact takeCommand ok.serviceOut
  · exact takeCommand ok.serviceIn
  · exact takeCommand ok.correct
  · exact takeCommand ok.rehome
  · exact takeCommand (ok.stationWide ok.defocusRelease)
  · exact takeCommand (ok.stationWide ok.clearAlerts)
  · exact takeCommand (ok.stationWide ok.clearSticky)
  · exact takeCommand ok.report
  · exact ok.restart
  · exact ok.of_same rfl

theorem takeEntries (ok : s.Levelled) {es : List CommandEntry} : (s.takeEntries es).Levelled := by
  induction es generalizing s with
  | nil => exact ok
  | cons e rest ih =>
    simp only [State.takeEntries]
    split_ifs
    · exact ok.takeEntry
    · exact ih ok.takeEntry
    · exact ih ok

theorem takeReceiver (ok : s.Levelled) {st : Byte} {zones : List ZoneReading} :
    (s.takeReceiver st zones).Levelled := by
  simp only [State.takeReceiver]
  split
  · exact ok
  · exact State.levelled_setSources

theorem lookUpPeer (ok : s.Levelled) {station : Nat} {items : List PlanItem} :
    (s.lookUpPeer station items).Levelled := by
  rcases s.lookUpPeer_cases station items with ⟨w, -, -, e⟩ | ⟨w, -, -, e⟩ | ⟨-, -, e⟩ | ⟨-, -, e⟩ <;> rw [e]
  · exact ok.of_same rfl
  · exact ok.of_same rfl
  · exact ok
  · rw [State.evict_frame]
    exact ok.of_same rfl

theorem becomeSilent {s : State} : s.becomeSilent.Levelled := by
  simp only [State.becomeSilent]
  exact State.levelled_setSources

theorem hearOwnNumber (ok : s.Levelled) : s.hearOwnNumber.Levelled := by
  simp only [State.hearOwnNumber]
  split
  · exact becomeSilent
  · exact ok.of_same rfl

theorem takeFrame (ok : s.Levelled) {slot : Nat} {body : FrameBody} : (s.takeFrame slot body).Levelled := by
  have heard : (s.change State.hear).Levelled := change (ok.of_same rfl)
  cases body <;> simp only [State.takeFrame]
  case sun => exact heard.of_same rfl
  case receiver => exact change (heard.takeReceiver)
  case command es => exact heard.takeEntries
  case contribution =>
    split
    · exact change heard.hearOwnNumber
    · exact change (heard.lookUpPeer)

theorem receiveBody (ok : s.Levelled) {slot : Nat} {body : FrameBody} : (s.receiveBody slot body).Levelled := by
  simp only [State.receiveBody]
  split
  · split
    · exact ok.of_same rfl
    · exact ok.takeFrame
  · exact ok

theorem receiveRaw (ok : s.Levelled) {raw : RawFrame} : (s.receiveRaw raw).Levelled := by
  simp only [State.receiveRaw]
  split
  · split
    · exact ok.of_same rfl
    · exact ok.takeFrame
  · exact ok

end State.Levelled

/-! ## The own frame (R95 to R97, R162 to R174) -/

/-- R169: the keep pass leaves all that the levels rest on. -/
theorem keepOne_view (cfg : StationConfig) (ps : PassState) (i j : Fin 8) :
    (keepOne cfg ps i).helios[j].levelView = ps.helios[j].levelView := by
  by_cases here : j = i
  · subst here
    rcases keepOne_cases cfg ps j with ⟨b, -, e⟩ | ⟨-, e⟩ <;> rw [e, set_helio_self] <;> rfl
  · rcases keepOne_cases cfg ps i with ⟨b, -, e⟩ | ⟨-, e⟩ <;> rw [e, set_helio_other _ _ _ _ here]

/-- R170: the place pass leaves all that the levels rest on. -/
theorem placeOne_view (cfg : StationConfig) (ps : PassState) (i j : Fin 8) :
    (placeOne cfg ps i).helios[j].levelView = ps.helios[j].levelView := by
  rcases placeOne_helios cfg ps i with e | ⟨ap, -, e⟩ <;> rw [e]
  by_cases here : j = i
  · subst here
    rw [set_helio_self]
    rfl
  · rw [set_helio_other _ _ _ _ here]

theorem State.passes_view (s : State) (j : Fin 8) : s.passes.helios[j].levelView = s.helios[j].levelView := by
  have ready : (readyForPasses s.helios)[j].levelView = s.helios[j].levelView := by
    rw [readyForPasses, Fin.getElem_fin, getElem_mapEach]
    rfl
  have kept := List.foldlRecOn (motive := fun ps : PassState => ps.helios[j].levelView = s.helios[j].levelView)
    (rankedEligible s.helios) (keepOne s.cfg)
    (b := { helios := readyForPasses s.helios, budgets := s.startBudgets, wanted := [] }) ready
    fun ps view i _ => (keepOne_view s.cfg ps i j).trans view
  exact List.foldlRecOn (motive := fun ps : PassState => ps.helios[j].levelView = s.helios[j].levelView)
    (rankedEligible s.helios) (placeOne s.cfg) kept fun ps view i _ => (placeOne_view s.cfg ps i j).trans view

namespace State.Levelled

variable {s : State}

theorem supplyPlan (ok : s.Levelled) : s.supplyPlan.Levelled := by
  simp only [State.supplyPlan]
  split
  · exact ok.of_views rfl rfl s.passes_view
  all_goals exact ok.of_same rfl

theorem buildFrame (ok : s.Levelled) : s.buildFrame.Levelled := (change ok.supplyPlan).of_same rfl

theorem frameStart (ok : s.Levelled) : s.frameStart.Levelled := by
  simp only [State.frameStart]
  split_ifs
  · exact ok.of_same rfl
  · exact ok.cutFrame
  · exact ok

theorem echoAbort (ok : s.Levelled) : s.echoAbort.Levelled := ok.cutFrame.of_same rfl

theorem completeFrame (ok : s.Levelled) : s.completeFrame.Levelled :=
  ok.of_views rfl rfl fun i => by
    rw [Fin.getElem_fin, State.completeFrame_helio]
    rcases s.helios[i.val].applyPlacement_cases with ⟨-, e⟩ | ⟨ap, -, e⟩ <;> rw [e] <;> rfl

end State.Levelled
end Sys2Proof.Machine
end

section
/-! Engaged levels through the tick, the epoch, the pins and the axes; every row and every step (R67, R68). -/

namespace Sys2Proof.Machine
namespace State.Levelled

variable {s : State}

/-! ## Turns and aim ticks (R19 to R23, R116, R118, R190) -/

theorem takeTurns (ok : s.Levelled) {sun : Vec3} {l : List (Fin 8)} : (s.takeTurns sun l).Levelled := by
  induction l generalizing s with
  | nil => exact ok
  | cons i rest ih => exact ih (change (f := fun s => s.takeTurn sun i) ok.updateHelio)

theorem continueTick (ok : s.Levelled) {p : TickProgress} {stop : Nat} : (s.continueTick p stop).Levelled :=
  ok.takeTurns.of_same rfl

theorem finishTick (ok : s.Levelled) : s.finishTick.Levelled := by
  simp only [State.finishTick]
  split
  · exact ok.continueTick
  · exact ok

theorem updateSunSource (ok : s.Levelled) {lost : Bool} : (s.updateSunSource lost).Levelled := by
  simp only [State.updateSunSource]
  split
  · exact ok
  · exact State.levelled_setSources

theorem dawnRehome (ok : s.Levelled) : s.dawnRehome.Levelled := by
  simp only [State.dawnRehome]
  split
  · exact ok.rehomeAll
  · exact ok

/-- R118, R190: after a dawn the levels are those of the withdrawn NIGHT source. -/
theorem dawn (night : s.sc.state = .night) : s.dawn.Levelled := by
  simp only [State.dawn]
  have rests : (({ s with rs := { s.rs with nightCount := 0 } } : State).change State.dawnRehome).sc.state = .night := by
    rw [State.change_sc, State.dawnRehome_sc]
    exact night
  generalize ({ s with rs := { s.rs with nightCount := 0 } } : State).change State.dawnRehome = t at rests
  have withdrawn : (t.change fun s => s.setSources fun src => { src with stowNight := false }).Levelled :=
    change (State.levelled_setSources)
  exact change (withdrawn.toState (by simp [rests, StationState.loaded]) rfl)

theorem beginTurns (ok : s.Levelled) {sun : Vec3} {stop : Nat} : (s.beginTurns sun stop).Levelled := by
  simp only [State.beginTurns]
  split
  · exact ok.continueTick
  · exact ok

theorem evaluateTick (ok : s.Levelled) {sun : Option Vec3} {stop : Nat} : (s.evaluateTick sun stop).Levelled := by
  have updated : (s.change fun s => s.updateSunSource sun.isNone).Levelled := change ok.updateSunSource
  simp only [State.evaluateTick]
  generalize (s.change fun s => s.updateSunSource sun.isNone) = t at updated
  split
  · exact updated
  · split
    · rename_i met
      simp only [State.dawnMet, Bool.and_eq_true, beq_iff_eq] at met
      exact (dawn met.1).beginTurns
    · exact updated.beginTurns

theorem startTick (ok : s.Levelled) {offset stop : Nat} : (s.startTick offset stop).Levelled := by
  simp only [State.startTick]
  split
  · exact evaluateTick (s := s.tickTaken offset) (ok.of_same rfl)
  · exact ok

theorem aimTick (ok : s.Levelled) {offset stop : Nat} : (s.aimTick offset stop).Levelled := by
  simp only [State.aimTick]
  split
  · exact ok.continueTick
  · split
    · exact ok.startTick
    · exact ok

/-! ## The tests of the Station Controller (R185 to R191) -/

theorem becomeIsolated : s.becomeIsolated.Levelled := by
  simp only [State.becomeIsolated]
  exact State.levelled_setSources

theorem becomeNight : s.becomeNight.Levelled := by
  simp only [State.becomeNight]
  exact State.levelled_setSources

theorem leaveIsolated : s.leaveIsolated.Levelled := by
  simp only [State.leaveIsolated]
  exact State.levelled_setSources

theorem otherwiseDecided (ok : s.Levelled) : s.otherwiseDecided.Levelled := by
  simp only [State.otherwiseDecided]
  split
  · rename_i syncing
    split
    · have waits : State.Levelled { s with sc := { s.sc with listen := false } } := ok.of_same rfl
      exact waits.toState (by simp [syncing, StationState.loaded]) rfl
    · exact ok.of_same rfl
  · exact ok.of_same rfl
  · exact ok.of_same rfl
  · split
    · exact leaveIsolated
    · exact ok
  all_goals exact ok

theorem stationTests (ok : s.Levelled) : s.stationTests.Levelled := by
  simp only [State.stationTests]
  split_ifs
  · exact becomeSilent
  · exact becomeIsolated
  · exact becomeNight
  · exact ok.otherwiseDecided

/-! ## Slots, epochs and marks (R87 to R100) -/

theorem busLostTest (ok : s.Levelled) : s.busLostTest.Levelled := by
  simp only [State.busLostTest]
  split
  · exact ok.of_same rfl
  · exact ok

theorem countSlot (ok : s.Levelled) : s.countSlot.Levelled := by
  rw [State.countSlot_eq]
  exact ok.of_same rfl

theorem settleOwnSlot (ok : s.Levelled) : s.settleOwnSlot.Levelled := by
  rw [State.settleOwnSlot_eq]
  exact ok.of_same rfl

theorem startSlot (ok : s.Levelled) {slot : Nat} : (s.startSlot slot).Levelled := by
  have entered : State.Levelled { s with bi := s.bi.enterSlot slot } := ok.of_same rfl
  have settled := entered.settleOwnSlot
  simp only [State.startSlot]
  split_ifs
  · exact (change settled.countSlot).of_same rfl
  · exact change settled.countSlot
  · exact settled

theorem rxStaleTest (ok : s.Levelled) : s.rxStaleTest.Levelled := by
  simp only [State.rxStaleTest]
  split
  · exact State.levelled_setSources
  · exact ok

theorem handEpoch (ok : s.Levelled) : s.handEpoch.Levelled := by
  have counted : (s.change State.countSlot).Levelled := change ok.countSlot
  simp only [State.handEpoch]
  generalize s.change State.countSlot = t at counted
  have expired : ({ t with bi := t.bi.settleRun } : State).expireSuns.Levelled := counted.of_same rfl
  exact (change expired.rxStaleTest).of_same rfl

theorem epochStartTick (ok : s.Levelled) {first : Bool} : (s.epochStartTick first).Levelled := by
  have left : s.leaveTickDue.Levelled := ok.of_same rfl
  simp only [State.epochStartTick]
  split
  · exact left.startTick
  · exact left

theorem makeEpochStart (ok : s.Levelled) {first : Bool} : (s.makeEpochStart first).Levelled := by
  have scheduled : s.scheduleTicks.Levelled := ok.of_same rfl
  simp only [State.makeEpochStart]
  split
  · exact (change scheduled.finishTick.handEpoch.epochStartTick.stationTests).of_same rfl
  · exact scheduled

theorem wrap (ok : s.Levelled) {first : Bool} : (s.wrap first).Levelled := by
  have wrapped : s.wrapped.Levelled := ok.settleOwnSlot.of_same rfl
  rw [State.wrap_eq]
  exact wrapped.makeEpochStart

theorem markEpoch (ok : s.Levelled) {first : Bool} : (s.markEpoch first).Levelled := by
  have settled := ok.cutFrame.settleOwnSlot
  simp only [State.markEpoch]
  refine makeEpochStart ?_
  exact settled.of_same rfl

theorem timeMark (ok : s.Levelled) {first : Bool} : (s.timeMark first).Levelled := by
  have marked : (s.change fun s => { s with bi := s.bi.marked }).Levelled := change (ok.of_same rfl)
  simp only [State.timeMark]
  split
  · exact marked.of_same rfl
  · exact marked.markEpoch

theorem markLostTest (ok : s.Levelled) : s.markLostTest.Levelled := by
  simp only [State.markLostTest]
  split
  · exact ok.of_same rfl
  · exact ok

theorem closeWindow (ok : s.Levelled) : s.closeWindow.Levelled := by
  simp only [State.closeWindow]
  split
  · exact change (markLostTest (ok.of_same rfl))
  · exact ok

theorem unlessReset {f : State → State} (ok : s.Levelled) (step : (f s).Levelled) :
    (s.unlessReset f).Levelled := by
  simp only [State.unlessReset]
  split
  · exact ok
  · exact step

theorem unlessCut {f : State → State} (ok : s.Levelled) (step : (f s).Levelled) :
    (s.unlessCut f).Levelled := by
  simp only [State.unlessCut]
  split
  · exact ok
  · exact ok.unlessReset step

/-! ## The defocus code and the pins (R80 to R82, R127 to R136) -/

theorem receiveBit (ok : s.Levelled) {first bit : Bool} : (s.receiveBit first bit).Levelled := by
  have activated : ∀ t : State, t.Levelled →
      (if s.activateDetected bit then t.change State.activateCode else t).Levelled := fun t ok => by
    split
    · exact change ok.activateCode
    · exact ok
  have released : ∀ t : State, t.Levelled →
      (if s.releaseDetected bit then t.change State.releaseCode else t).Levelled := fun t ok => by
    split
    · exact change ok.releaseCode
    · exact ok
  have fed : (s.feedBit bit).Levelled := ok.of_same rfl
  simp only [State.receiveBit]
  split
  · split
    · exact released _ (activated _ fed)
    · exact activated _ (released _ fed)
  · exact ok

theorem startGeneration (ok : s.Levelled) : s.startGeneration.Levelled := by
  simp only [State.startGeneration]
  exact activateCode (ok.cutFrame.of_same rfl)

theorem endGeneration (ok : s.Levelled) : s.endGeneration.Levelled := by
  simp only [State.endGeneration]
  split
  · exact ok.of_same rfl
  · exact ok

theorem stowInput (ok : s.Levelled) {active : Bool} : (s.stowInput active).Levelled := by
  simp only [State.stowInput, State.stowChange]
  split
  · exact change State.levelled_setSources
  · exact ok.of_same rfl

theorem tripInput (ok : s.Levelled) {active : Bool} : (s.tripInput active).Levelled := by
  have shown : State.Levelled { s with tripin := active } := ok.of_same rfl
  simp only [State.tripInput]
  split
  · exact change shown.startGeneration
  · exact shown

/-! ## Axes (R44 to R58) -/

theorem axisStep (ok : s.Levelled) {i : Fin 8} {a : AxisId} : (s.axisStep i a).Levelled := by
  simp only [State.axisStep]
  split
  · exact ok.updateHelio
  · exact ok

theorem homefail (ok : s.Levelled) {i : Fin 8} {a : AxisId} : (s.homefail i a).Levelled := by
  simp only [State.homefail]
  split
  · exact ok.updateHelio
  · exact ok

theorem indexRise (ok : s.Levelled) {i : Fin 8} {a : AxisId} : (s.indexRise i a).Levelled := by
  simp only [State.indexRise]
  split_ifs
  · exact ok.updateHelio
  · have synced : (s.updateHelio i fun y => y.setAxis a (y.axis a).resync).Levelled := ok.updateHelio
    exact synced.of_same rfl
  · exact ok.updateHelio
  · exact ok

theorem indexEdge (ok : s.Levelled) {i : Fin 8} {a : AxisId} {level : Bool} :
    (s.indexEdge i a level).Levelled := by
  have shown : State.Levelled { s with helios := s.helios.set i (s.helios[i].setIndex a level) } :=
    ok.setHelio (by cases a <;> rfl)
  simp only [State.indexEdge]
  split
  · exact change shown.indexRise
  · exact shown

theorem driveFault (ok : s.Levelled) {i : Fin 8} {active : Bool} : (s.driveFault i active).Levelled := by
  have shown : State.Levelled { s with helios := s.helios.set i { s.helios[i] with drvflt := active } } :=
    ok.setHelio rfl
  simp only [State.driveFault]
  split
  · exact change shown.updateHelio
  · exact shown

/-! ## Every row and every microsecond -/

theorem tick (ok : s.Levelled) : s.tick.Levelled := by
  simp only [State.tick]
  split
  · exact ok
  · refine ok.of_views rfl rfl fun i => ?_
    simp only [State.advance, Fin.getElem_fin, getElem_mapEach]
    rfl

/-- R67, R68: whatever the row, it leaves the levels in order. -/
theorem of_exec {c : Instr} {t : State} (ok : s.Levelled) (h : exec c s = .next t) : t.Levelled := by
  cases c <;> cases h
  case stowField => exact ok.ifRunning fun _ => takeCommand (ok.stationWide stowField)
  case stowRelease => exact ok.ifRunning fun _ => takeCommand (ok.stationWide ok.stowRelease)
  case standbySet => exact ok.ifRunning fun _ => takeCommand (ok.stationWide standbySet)
  case standbyClear => exact ok.ifRunning fun _ => takeCommand (ok.stationWide ok.standbyClear)
  case hold => exact ok.ifRunning fun _ => takeCommand ok.hold
  case holdRelease => exact ok.ifRunning fun _ => takeCommand ok.holdRelease
  case serviceOut => exact ok.ifRunning fun _ => takeCommand ok.serviceOut
  case serviceIn => exact ok.ifRunning fun _ => takeCommand ok.serviceIn
  case correct => exact ok.ifRunning fun _ => takeCommand ok.correct
  case rehome => exact ok.ifRunning fun _ => takeCommand ok.rehome
  case defocusRelease => exact ok.ifRunning fun _ => takeCommand (ok.stationWide ok.defocusRelease)
  case clearAlerts => exact ok.ifRunning fun _ => takeCommand (ok.stationWide ok.clearAlerts)
  case clearSticky => exact ok.ifRunning fun _ => takeCommand (ok.stationWide ok.clearSticky)
  case report => exact ok.ifRunning fun _ => takeCommand ok.report
  case restart => exact ok.ifRunning fun _ => ok.restart
  case reservedCommand =>
    refine ok.ifRunning fun _ => ?_
    split
    · exact ok.of_same rfl
    · exact ok
  case sunFrame | receiverFrame | contributionFrame | commandFrame => exact ok.receiveBody
  case ownNumberFrame =>
    show State.Levelled (ite _ _ _)
    split
    · exact ok.takeFrame
    · exact ok
  case frameDropped => exact ok.receiveRaw
  case epochStart => exact ok.unlessCut ok.wrap
  case timeMark => exact ok.unlessReset ok.timeMark
  case markWindowClose => exact ok.unlessReset ok.closeWindow
  case markLost => exact ok.unlessReset (change ok.markLostTest)
  case slotStart =>
    refine ok.unlessCut ?_
    split
    · exact ok.startSlot
    · exact ok
  case busLost => exact ok.ifRunning fun _ => change ok.busLostTest
  case build =>
    show State.Levelled (ite _ _ _)
    split
    · exact ok.buildFrame
    · exact ok
  case frameBegin => exact ok.ifRunning fun _ => ok.frameStart
  case transmitCompletion =>
    refine ok.ifRunning fun _ => ?_
    split
    · exact ok.completeFrame
    · exact ok
  case echoMismatch =>
    refine ok.ifRunning fun _ => ?_
    split
    · exact ok.echoAbort
    · exact ok
  case enterSilent =>
    refine ok.ifRunning fun _ => ?_
    split
    · exact change becomeSilent
    · exact ok
  case enterIsolated =>
    refine ok.ifRunning fun _ => ?_
    split
    · exact change becomeIsolated
    · exact ok
  case enterNight =>
    refine ok.ifRunning fun _ => ?_
    split
    · exact change becomeNight
    · exact ok
  case rxStale => exact ok.ifRunning fun _ => change ok.rxStaleTest
  case sunRecordExpiry | peerAgeOut | residueExpiry | dniPulse => exact ok.ifRunning fun _ => ok.of_same rfl
  case aimTick => exact ok.ifRunning fun _ => ok.aimTick
  case axisStep =>
    show State.Levelled (ite _ _ _)
    split
    · exact ok
    · exact change ok.axisStep
  case indexEdge => exact ok.indexEdge
  case homefail =>
    show State.Levelled (ite _ _ _)
    split
    · exact ok
    · exact change ok.homefail
  case driveFault => exact ok.driveFault
  case stowInputChange => exact ok.stowInput
  case tripEdge => exact ok.tripInput
  case generationEnd => exact ok.ifRunning fun _ => ok.endGeneration
  case activateDetection | releaseDetection | detectorLock => exact ok.receiveBit
  case windowEnd => exact ok.ifRunning fun _ => change (ok.of_same rfl)
  case powerOnReset i =>
    have sampled : (s.strapsAt i.straps).Levelled := ok.of_same rfl
    exact sampled.powerOnReset
  case resetn i =>
    have sampled : (s.strapsAt i.straps).Levelled := ok.of_same rfl
    exact sampled.resetPin
  case loadEnd w image =>
    have sampled : (s.strapsAt w).Levelled := ok.of_same rfl
    show State.Levelled (ite _ _ _)
    split
    · rename_i begun
      exact sampled.endLoad begun.1
    · exact ok

end State.Levelled

/-- Settles O7: a step is one microsecond or a row, and each leaves the levels in order. -/
theorem engagedLevelIsKept : Obligations.EngagedLevelIsKept := by
  intro s t ok h
  have levelled : s.Levelled := ⟨ok⟩
  refine State.Levelled.engaged ?_
  cases waiting : s.pending with
  | nil =>
    rw [step_nil waiting] at h
    cases h
    exact levelled.tick
  | cons c rest =>
    rw [step_cons waiting] at h
    exact State.Levelled.of_exec (s := { s with pending := rest }) (levelled.of_same rfl) h

end Sys2Proof.Machine
end

section
/-! What a recomputed engaged level does to its heliostat (R67 to R72). -/

namespace Sys2Proof.Machine

/-! ## Levels entered (R70 to R72) -/

section Entered

variable (h : Helio)

/-- R70 to R72: on entering NONE, STANDBY or TRACK no target is written. -/
theorem Helio.enter_idle {l : Level} (idle : l = .standby ∨ l = .track ∨ l = .none) :
    h.enter l = { h with engaged := l } := by
  rcases idle with rfl | rfl | rfl <;> rfl

theorem Helio.enter_stow : h.enter .stow = { h with
    engaged := .stow, az := h.az.writeTarget h.cfg.stow.az, el := h.el.writeTarget h.cfg.stow.el } := rfl

/-- R71: on entering DEFOCUS the clamped positions are stored and written, and a clamp that changes one sets LIMIT. -/
theorem Helio.enter_defocus : h.enter .defocus = { h with
    engaged := .defocus, snapshot := some (h.softSteps h.defocusPoint)
    limit := h.limit || h.softSteps h.defocusPoint != h.defocusPoint
    az := h.az.writeTarget (h.az.soft h.az.position)
    el := h.el.writeTarget (h.el.soft (h.el.position + h.cfg.defocusOffset)) } := rfl

theorem Helio.enter_held {t : Steps} (held : h.hold = some t) : h.enter .hold = { h with
    engaged := .hold, az := h.az.writeTarget t.az, el := h.el.writeTarget t.el } :=
  (h.enter_spec .hold).2.2.1 t rfl held

/-- R69, R71: the snapshot is taken on entering DEFOCUS alone. -/
theorem Helio.enter_snapshot {l : Level} (other : l ≠ .defocus) : (h.enter l).snapshot = h.snapshot := by
  cases l with
  | defocus => exact absurd rfl other
  | hold => cases held : h.hold <;> simp [Helio.enter, held]
  | none | stow | standby | track => rfl

/-- R71, R73: the clamp changes a pair of counts exactly where it changes one of them. -/
theorem Helio.softSteps_ne {t : Steps} :
    (h.softSteps t != t) = true ↔ h.az.soft t.az ≠ t.az ∨ h.el.soft t.el ≠ t.el := by
  rw [bne_iff_ne, ← not_and_or]
  cases t
  simp [Helio.softSteps]

end Entered

/-! ## Levels left and entered -/

section Changed

variable {h : Helio} {src : Sources} {loaded : Bool}

theorem Helio.reengage_of_change (change : h.engaged ≠ h.governing src loaded) :
    h.reengage src loaded = h.leave.enter (h.governing src loaded) := if_neg change.symm

/-- R69: a left level other than TRACK leaves the placement. -/
theorem Helio.leave_placement (other : h.engaged ≠ .track) : h.leave.assignment = h.assignment ∧
    h.leave.deferred = h.deferred ∧ h.leave.placementP = h.placementP := by
  cases e : h.engaged <;> simp_all [Helio.leave]

/-- R69: a left level other than DEFOCUS leaves the snapshot. -/
theorem Helio.leave_snapshot (other : h.engaged ≠ .defocus) : h.leave.snapshot = h.snapshot := by
  cases e : h.engaged <;> simp_all [Helio.leave]

end Changed

/-- Settles O6: a changed level is left and the governing one entered; the clauses are those of either. -/
theorem levelChange : Obligations.LevelChange := by
  intro h src loaded g h'
  refine ⟨Helio.reengage_engaged .., Helio.reengage_frame .., fun same => Helio.reengage_of_engaged same,
    fun change => ?_⟩
  have changed : h' = h.leave.enter g := Helio.reengage_of_change change
  obtain ⟨fromTrack, fromDefocus, -⟩ := h.leave_spec
  rw [changed]
  refine ⟨fun track => ?_, fun track => ?_, fun other => ?_, fun defocus => ?_, fun other noEntry => ?_, fun stow => ?_,
    fun defocus => ?_, fun t held hold => ?_, fun idle => ?_⟩
  · rw [Helio.enter_assignment, Helio.enter_deferred, fromTrack track]
    exact ⟨rfl, rfl⟩
  · rw [Helio.enter_placementP, fromTrack track]
    rfl
  · rw [Helio.enter_assignment, Helio.enter_deferred, Helio.enter_placementP]
    exact Helio.leave_placement other
  · rw [Helio.enter_snapshot _ (defocus ▸ change).symm, fromDefocus defocus]
  · rw [Helio.enter_snapshot _ noEntry, Helio.leave_snapshot other]
  · rw [stow, Helio.enter_stow]
    simp
  · have point : h.leave.defocusPoint = h.defocusPoint := by simp [Helio.defocusPoint]
    have clamped : h.leave.softSteps h.defocusPoint = h.softSteps h.defocusPoint := by simp [Helio.softSteps]
    rw [defocus, Helio.enter_defocus, point, clamped]
    simp only [Helio.leave_az, Helio.leave_el, Helio.leave_cfg, Helio.leave_limit, Bool.or_eq_true, h.softSteps_ne, true_and]
    exact ⟨rfl, Iff.rfl⟩
  · rw [hold, h.leave.enter_held (h.leave_hold.trans held)]
    simp
  · rw [Helio.enter_idle _ idle]
    simp

end Sys2Proof.Machine
end

section
/-! The commands of the Override Controller (R73 to R79) and the stow input (R80 to R82). -/

namespace Sys2Proof.Machine

/-! ## Demanded and governing levels (R67, R68) -/

section Demands

variable {src : Sources}

/-- R68: HOLD is the highest demand only where a HOLD source is set. -/
theorem demandedLevel_no_hold : demandedLevel src false ≠ .hold := by
  simp only [demandedLevel]
  split_ifs <;> simp_all

/-- R68: a HOLD source matters only where nothing above it is set. -/
theorem demandedLevel_of_ne_hold (higher : demandedLevel src true ≠ .hold) (hold : Bool) :
    demandedLevel src hold = demandedLevel src true := by
  revert higher
  simp only [demandedLevel]
  split_ifs <;> simp_all

/-- R68: below HOLD stand STANDBY and TRACK. -/
theorem demandedLevel_below_hold (top : demandedLevel src true = .hold) :
    demandedLevel src false = .standby ∨ demandedLevel src false = .track := by
  revert top
  simp only [demandedLevel]
  split_ifs <;> simp_all

/-- R67, R68: what governs a heliostat of a station that has loaded. -/
theorem Helio.governing_loaded (h : Helio) (src : Sources) :
    h.governing src true = if h.computed = true then demandedLevel src h.hold.isSome else .none := by
  cases c : h.computed <;> simp_all [Helio.governing, Helio.masked, Helio.computed]

theorem State.engaged_loaded {s : State} (run : s.running = true) (ok : EngagedOk s) (i : Fin 8) :
    s.helios[i].engaged = s.helios[i].governing s.src true := by
  rw [ok i, ((State.running_iff s).1 run).2]

end Demands

/-! ## One heliostat under HOLD and HOLD-RELEASE (R73 to R75) -/

/-- R73: the HOLD source set with its clamped target, before any level is recomputed. -/
def Helio.storeHold (h : Helio) (t : Steps) : Helio :=
  { h with hold := some (h.softSteps t), limit := h.limit || h.softSteps t != t }

section Hold

variable {h : Helio} {src : Sources}

theorem Helio.takeHold_eq (h : Helio) (t : Steps) : h.takeHold t =
    if h.engaged = .hold then (h.storeHold t).writeTargets (h.softSteps t) else h.storeHold t := rfl

/-- R68: HOLD is engaged only where it is the highest demand. -/
theorem Helio.demanded_of_engaged_hold (ok : h.engaged = h.governing src true) (engaged : h.engaged = .hold) :
    h.computed = true ∧ demandedLevel src true = .hold := by
  rw [engaged, Helio.governing_loaded] at ok
  split at ok
  · rename_i computed
    refine ⟨computed, ?_⟩
    cases hold : h.hold.isSome
    · rw [hold] at ok
      exact absurd ok.symm demandedLevel_no_hold
    · rw [← hold, ← ok]
  · cases ok

/-- R68: where HOLD would be the highest demand and is not engaged, STANDBY or TRACK is. -/
theorem Helio.engaged_below_hold (ok : h.engaged = h.governing src true) (computed : h.computed = true)
    (top : demandedLevel src true = .hold) (other : h.engaged ≠ .hold) : h.engaged = .standby ∨ h.engaged = .track := by
  rw [Helio.governing_loaded, if_pos computed] at ok
  cases hold : h.hold.isSome <;> rw [hold] at ok
  · rw [ok]
    exact demandedLevel_below_hold top
  · exact absurd (ok.trans top) other

theorem Helio.storeHold_governing (h : Helio) (t : Steps) (src : Sources) :
    (h.storeHold t).governing src true = if h.computed = true then demandedLevel src true else .none :=
  (h.storeHold t).governing_loaded src

/-- R74: where HOLD is engaged the new target is written, and the level stays. -/
theorem Helio.takeHold_reengage_held (ok : h.engaged = h.governing src true) (t : Steps) (engaged : h.engaged = .hold) :
    (h.takeHold t).reengage src true = (h.storeHold t).writeTargets (h.softSteps t) := by
  obtain ⟨computed, top⟩ := Helio.demanded_of_engaged_hold ok engaged
  have same := Helio.governing_congr (h := h.storeHold t) (h' := (h.storeHold t).writeTargets (h.softSteps t)) src true
    rfl rfl rfl rfl rfl
  rw [Helio.takeHold_eq, if_pos engaged]
  refine Helio.reengage_of_engaged ?_
  rw [same, Helio.storeHold_governing, if_pos computed, top]
  exact engaged

/-- R68, R72, R73: where HOLD becomes the highest demand, STANDBY or TRACK is left and the new target written. -/
theorem Helio.storeHold_reengage_entered (ok : h.engaged = h.governing src true) (t : Steps) (computed : h.computed = true)
    (top : demandedLevel src true = .hold) (other : h.engaged ≠ .hold) : (h.storeHold t).reengage src true =
      { (if h.engaged = .track then unplaced (h.storeHold t) else h.storeHold t) with
        engaged := .hold, az := h.az.writeTarget (h.softSteps t).az, el := h.el.writeTarget (h.softSteps t).el } := by
  have governs := h.storeHold_governing t src
  rw [if_pos computed, top] at governs
  obtain ⟨fromTrack, -, otherwise⟩ := (h.storeHold t).leave_spec
  rw [Helio.reengage_of_change (h := h.storeHold t) (by rw [governs]; exact other), governs]
  obtain standby | track := Helio.engaged_below_hold ok computed top other
  · rw [if_neg (by rw [standby]; nofun), otherwise (by rw [Helio.storeHold, standby]; nofun)
      (by rw [Helio.storeHold, standby]; nofun), (h.storeHold t).enter_held rfl]
    rfl
  · rw [if_pos track, fromTrack track, Helio.enter_held _ rfl]
    rfl

/-- R73: below another demand, and while masked, the target is only stored. -/
theorem Helio.storeHold_reengage_kept (ok : h.engaged = h.governing src true) (t : Steps)
    (below : ¬(h.computed = true ∧ demandedLevel src true = .hold)) :
    (h.storeHold t).reengage src true = h.storeHold t := by
  refine Helio.reengage_of_engaged ?_
  rw [Helio.storeHold_governing]
  refine ok.trans ((h.governing_loaded src).trans ?_)
  split
  · rename_i computed
    exact demandedLevel_of_ne_hold (fun top => below ⟨computed, top⟩) _
  · rfl

/-- R73, R74: a stored HOLD target is written where HOLD is or becomes engaged. -/
theorem Helio.takeHold_reengage (ok : h.engaged = h.governing src true) (t : Steps) :
    (h.takeHold t).reengage src true =
      if h.computed = true ∧ demandedLevel src true = .hold then
        { (if h.engaged = .track then unplaced (h.storeHold t) else h.storeHold t) with
          engaged := .hold, az := h.az.writeTarget (h.softSteps t).az, el := h.el.writeTarget (h.softSteps t).el }
      else h.storeHold t := by
  by_cases engaged : h.engaged = .hold
  · rw [Helio.takeHold_reengage_held ok t engaged, if_pos (Helio.demanded_of_engaged_hold ok engaged),
      if_neg (by rw [engaged]; nofun), ← engaged]
    rfl
  · rw [Helio.takeHold_eq, if_neg engaged]
    split
    · rename_i top
      exact Helio.storeHold_reengage_entered ok t top.1 top.2 engaged
    · rename_i below
      exact Helio.storeHold_reengage_kept ok t below

/-- R75: a withdrawn HOLD source leaves the next demand, and no target is written. -/
theorem Helio.releaseHold_reengage (ok : h.engaged = h.governing src true) :
    ({ h with hold := none } : Helio).reengage src true = { h with
      hold := none, engaged := if h.engaged = .hold then demandedLevel src false else h.engaged } := by
  have governs : ({ h with hold := none } : Helio).governing src true =
      if h.computed = true then demandedLevel src false else .none :=
    Helio.governing_loaded { h with hold := none } src
  by_cases engaged : h.engaged = .hold
  · have top := Helio.demanded_of_engaged_hold ok engaged
    rw [if_pos top.1] at governs
    have change : ({ h with hold := none } : Helio).engaged ≠ ({ h with hold := none } : Helio).governing src true := by
      rw [governs]
      exact fun same => demandedLevel_no_hold (same.symm.trans engaged)
    obtain ⟨-, -, otherwise⟩ := ({ h with hold := none } : Helio).leave_spec
    rw [Helio.reengage_of_change change, governs, otherwise (by rw [engaged]; nofun) (by rw [engaged]; nofun),
      if_pos engaged]
    refine Helio.enter_idle _ ?_
    obtain standby | track := demandedLevel_below_hold top.2
    · exact .inl standby
    · exact .inr (.inl track)
  · rw [if_neg engaged]
    refine Helio.reengage_of_engaged ?_
    rw [governs]
    refine ok.trans ((h.governing_loaded src).trans ?_)
    split
    · rename_i computed
      cases hold : h.hold.isSome
      · rfl
      · refine (demandedLevel_of_ne_hold (fun top => engaged ?_) false).symm
        rw [ok, Helio.governing_loaded, if_pos computed, hold, top]
    · rfl

end Hold

/-! ## Rows of taken entries -/

/-- A heliostat field that names a present heliostat. -/
theorem State.presentIndex_of_field {s : State} {hf : Byte} {i : Fin 8} (field : hf.toNat = i.val)
    (present : s.helios[i].cfg.present = true) : s.presentIndex hf = some i := by
  have same : hf = BitVec.ofNat 8 i.val := by rw [← field, BitVec.ofNat_toNat, BitVec.setWidth_eq]
  rw [same]
  exact s.presentIndex_of_present i present

/-- R103, R197: the row of an entry that replaces one heliostat of a running station. -/
theorem taken_row_helio {s : State} (run : s.running = true) {k hf : Byte} {f : State → Result × State} {i : Fin 8}
    {h : Helio} (e : f s = (.done, s.withHelio i h)) :
    ∃ t, (Host.Outcome.next (s.ifRunning fun s => s.takeCommand k hf f) : Host.Outcome State Fault Refusal) = .next t ∧
      Answered s t k hf .done ∧ Latched s t ∧ OthersKept s t i ∧ t.helios[i] = h ∧
      t = { s with helios := t.helios, bi := t.bi, au := t.au } := by
  obtain ⟨answered, latched, frame⟩ := s.takeCommand_taken k hf f _ _ e run run rfl rfl
  have helios : (s.takeCommand k hf f).helios = (s.withHelio i h).helios := by rw [frame]
  refine ⟨_, congrArg _ (State.ifRunning_of_running run _), answered, latched, fun j other => ?_, ?_,
    frame.trans (by rw [helios]; rfl)⟩
  · rw [helios]
    exact set_helio_other _ _ _ _ other
  · rw [helios, State.withHelio_self]

/-- R65, R68, R103, R197: the row of an entry that sets or withdraws sources of a running station. -/
theorem taken_row_sources {s : State} (run : s.running = true) {k hf : Byte} {f : State → Result × State}
    {g : Sources → Sources} (e : f s = (.done, s.setSources g)) :
    ∃ t, (Host.Outcome.next (s.ifRunning fun s => s.takeCommand k hf f) : Host.Outcome State Fault Refusal) = .next t ∧
      t.src = g s.src ∧ Recomputed s t ∧ Answered s t k hf .done ∧ Latched s t ∧
      t = { s with src := t.src, helios := t.helios, bi := t.bi, au := t.au } := by
  obtain ⟨answered, latched, frame⟩ := s.takeCommand_taken k hf f _ _ e run run rfl rfl
  have src : (s.takeCommand k hf f).src = g s.src := by rw [frame]; rfl
  have helios : (s.takeCommand k hf f).helios = (s.setSources g).helios := by rw [frame]
  refine ⟨_, congrArg _ (State.ifRunning_of_running run _), src, fun i => ?_, answered, latched,
    frame.trans (by rw [helios, src]; rfl)⟩
  rw [helios, src, Fin.getElem_fin, State.setSources_helio, ((State.running_iff s).1 run).2]
  rfl

/-! ## HOLD and HOLD-RELEASE -/

/-- Settles O10: the target is stored, and the level recomputed as `Helio.takeHold_reengage` says. -/
theorem holdTakesItsTarget : Obligations.HoldTakesItsTarget := by
  intro s i az el run ok present h target taken hf
  have index : s.presentIndex hf = some i := s.presentIndex_of_present i present
  have busy : s.helios[i].holdBusy = true ↔ h.engaged = .hold ∧ h.posture = .moving := by
    simp [Helio.holdBusy, h]
  refine ⟨fun moving => refused_row run ?_, fun free => ?_⟩
  · simp only [holdEffect, index]
    exact if_pos (busy.2 moving)
  · have replaced := Helio.takeHold_reengage (State.engaged_loaded run ok i) ⟨az.toInt, el.toInt⟩
    have e : holdEffect hf ⟨az.toInt, el.toInt⟩ s =
        (.done, s.withHelio i ((s.helios[i].takeHold ⟨az.toInt, el.toInt⟩).reengage s.src true)) := by
      simp only [holdEffect, index]
      refine (if_neg (mt busy.1 free)).trans ?_
      rw [State.updateHelio, ((State.running_iff s).1 run).2]
      rfl
    obtain ⟨t, row, answered, latched, others, self, frame⟩ := taken_row_helio (k := 5) (hf := hf) run e
    refine ⟨t, row, answered, latched, others, ?_, frame⟩
    rw [self, replaced]
    split <;> rfl

/-- Settles O11: the three answers, the last with the level recomputed as `Helio.releaseHold_reengage` says. -/
theorem holdReleaseWithdraws : Obligations.HoldReleaseWithdraws := by
  intro s hf run ok
  refine ⟨fun absent => refused_row run ?_, fun i field present free => refused_row run ?_,
    fun i field present held => ?_⟩
  · simp only [holdReleaseEffect, s.presentIndex_of_absent hf absent]
  · simp only [holdReleaseEffect, State.presentIndex_of_field field present, free, Option.isNone_none, if_true]
  · have e : holdReleaseEffect hf s =
        (.done, s.withHelio i (({ s.helios[i] with hold := none } : Helio).reengage s.src true)) := by
      have set : s.helios[i].hold.isNone = false := Option.isNone_eq_false_iff.2 (Option.isSome_iff_ne_none.2 held)
      simp only [holdReleaseEffect, State.presentIndex_of_field field present, set]
      rw [if_neg Bool.false_ne_true, State.updateHelio, ((State.running_iff s).1 run).2]
      rfl
    have replaced := Helio.releaseHold_reengage (State.engaged_loaded run ok i)
    rw [replaced] at e
    exact taken_row_helio run e

/-! ## Stow and standby commands (R76 to R79) -/

/-- R77: a heliostat of a station whose STOW demand has just been set. -/
theorem Helio.reengage_stow {h : Helio} {src src' : Sources} (ok : h.engaged = h.governing src true)
    (demand : ∀ hold, demandedLevel src' hold = .stow) : h.reengage src' true =
      if h.computed = false ∨ h.engaged = .stow then h else { h.leave with
        engaged := .stow, az := h.az.writeTarget h.cfg.stow.az, el := h.el.writeTarget h.cfg.stow.el } := by
  have governs := h.governing_loaded src'
  rw [demand] at governs
  rw [Helio.governing_loaded] at ok
  cases computed : h.computed with
  | false =>
    rw [if_pos (.inl rfl)]
    rw [computed, if_neg Bool.false_ne_true] at governs ok
    exact Helio.reengage_of_engaged (ok.trans governs.symm)
  | true =>
    rw [computed, if_pos rfl] at governs
    by_cases stowed : h.engaged = .stow
    · rw [if_pos (.inr stowed)]
      exact Helio.reengage_of_engaged (stowed.trans governs.symm)
    · rw [if_neg (by simp [stowed]), Helio.reengage_of_change (by rw [governs]; exact stowed), governs, Helio.enter_stow]
      simp

/-- R78: STOW-RELEASE withdraws what it finds set, LINE in edge mode alone. -/
theorem stowReleaseEffect_eq (s : State) : stowReleaseEffect s =
    if (s.src.stowCmd || (s.cfg.stowEdge && s.src.stowLine)) = true then
      (.done, s.setSources fun src => { src with stowCmd := false, stowLine := src.stowLine && !s.cfg.stowEdge })
    else (.state, s) := by
  cases edge : s.cfg.stowEdge <;> simp [stowReleaseEffect, edge]

/-- Settles O8: each command sets or withdraws its source, and every level is recomputed. -/
theorem stowAndStandbyCommands : Obligations.StowAndStandbyCommands := by
  refine ⟨fun s run ok => ?_, fun s run => ⟨fun no => refused_row run ?_, fun yes => ?_, ?_, fun set => ?_,
    fun clear => refused_row run ?_⟩⟩
  · obtain ⟨t, row, src, levels, answered, latched, frame⟩ :=
      taken_row_sources (k := 1) (hf := 255) (f := stationWide 255 stowFieldEffect) run rfl
    refine ⟨t, row, src, fun i => ?_, answered, latched, frame⟩
    have stowed := Helio.reengage_stow (src' := { s.src with stowCmd := true }) (State.engaged_loaded run ok i)
      (fun hold => by simp [demandedLevel])
    rw [levels i, src, stowed]
    split <;> rfl
  · exact (stowReleaseEffect_eq s).trans (if_neg (Bool.eq_false_iff.1 no))
  · exact taken_row_sources run ((stowReleaseEffect_eq s).trans (if_pos yes))
  · exact taken_row_sources (f := stationWide 255 standbySetEffect) run rfl
  · exact taken_row_sources (f := stationWide 255 standbyClearEffect) run (if_pos set)
  · exact if_neg (Bool.eq_false_iff.1 clear)

/-! ## The stow input (R80 to R82) -/

/-- R81, R82: an edge of the stow input of a running station. -/
theorem stowInput_edge {s : State} (run : s.running = true) {level : Bool} (edge : s.stowin = !activeLow level) :
    ∃ t, exec (.stowInputChange level) s = .next t ∧
      t.src = { s.src with stowLine := lineAfter s.cfg.stowEdge (activeLow level) s.src.stowLine } ∧
      Recomputed s t ∧ Latched s t ∧
      t = { s with stowin := activeLow level, src := t.src, helios := t.helios, au := t.au } := by
  let u : State := { s with stowin := activeLow level }
  have acts : s.stowInput (activeLow level) = u.change fun s => s.stowChange (activeLow level) :=
    if_pos (by rw [run, edge]; cases activeLow level <;> rfl)
  refine ⟨u.change fun s => s.stowChange (activeLow level), congrArg Host.Outcome.next acts,
    State.change_src .., fun i => ?_, ?_, (State.change_eq ..).trans ?_⟩
  · rw [State.change_helios, State.change_src, State.stowChange, Fin.getElem_fin, State.setSources_helio,
      ((State.running_iff u).1 run).2]
    rfl
  · rw [State.change_withAu (s := u) run run]
    rfl
  · rw [State.change_src, State.change_helios]
    rfl

/-- R68: sources that are set and withdrawn without effect leave a station whose levels are in order. -/
theorem State.setSources_of_same {s : State} (ok : EngagedOk s) {f : Sources → Sources} (same : f s.src = s.src) :
    s.setSources f = s := by
  have helios : (s.setSources f).helios = s.helios := Vector.ext fun i hi => by
    rw [State.setSources_helio, same]
    exact Helio.reengage_of_engaged (ok ⟨i, hi⟩)
  have src : (s.setSources f).src = s.src := same
  have frame : s.setSources f = { s with src := (s.setSources f).src, helios := (s.setSources f).helios } := rfl
  rw [frame, helios, src]

/-- R82: a fall to the active level while LINE is set. -/
theorem stowInput_again {s : State} (ok : EngagedOk s) (edge : s.cfg.stowEdge = true) (line : s.src.stowLine = true) :
    exec (.stowInputChange pinLow) s = .next { s with stowin := true } := by
  refine congrArg _ (?_ : s.stowInput true = { s with stowin := true })
  have same : ({ s with stowin := true } : State).stowChange true = { s with stowin := true } :=
    State.setSources_of_same (s := { s with stowin := true }) ok (by simp [lineAfter, edge, ← line])
  simp only [State.stowInput]
  split
  · exact State.change_of_fixed same
  · rfl

/-- R78, R81: in level mode STOW-RELEASE does not act on LINE, whatever its heliostat field. -/
theorem stowRelease_line {s : State} (level : s.cfg.stowEdge = false) (hf : Byte) :
    (s.stowRelease hf).src.stowLine = s.src.stowLine := by
  simp only [State.stowRelease, State.takeCommand, State.answer_src, State.change_src, stationWide,
    stowReleaseEffect_eq, level]
  split_ifs <;> simp

/-- Settles O48: an edge sets or withdraws LINE as the mode says; STOW-RELEASE and the resets withdraw it in edge mode. -/
theorem stowInputModes : Obligations.StowInputModes := by
  refine ⟨fun s run level => ⟨fun inactive => ?_, fun active => ?_, fun t hf h => ?_⟩, fun s run edge =>
    ⟨fun inactive => ?_, fun active => ?_, fun _ line ok => stowInput_again ok edge line, fun line => ?_, ?_⟩⟩
  · have fall := stowInput_edge run (level := pinLow) inactive
    rw [level] at fall
    exact fall
  · have rise := stowInput_edge run (level := pinHigh) active
    rw [level] at rise
    exact rise
  · cases h
    rw [State.ifRunning_of_running run]
    exact stowRelease_line level hf
  · have fall := stowInput_edge run (level := pinLow) inactive
    rw [edge, lineAfter, if_pos rfl, show activeLow pinLow = true from rfl, Bool.or_true] at fall
    exact fall
  · obtain ⟨t, row, src, levels, latched, frame⟩ := stowInput_edge run (level := pinHigh) active
    rw [edge, lineAfter, if_pos rfl, show activeLow pinHigh = false from rfl, Bool.or_false] at src
    rw [src] at frame
    exact ⟨t, row, src, levels, latched, frame⟩
  · have released := (stowReleaseEffect_eq s).trans (if_pos (by simp [edge, line]))
    obtain ⟨t, row, src, -⟩ := taken_row_sources (k := 2) (hf := 255) (f := stationWide 255 stowReleaseEffect) run released
    exact ⟨t, row, by rw [src]; simp [edge]⟩
  · rintro w c (_ | ⟨_, _ | ⟨_, _ | ⟨_, ⟨⟩⟩⟩⟩)
    · exact ⟨_, rfl, rfl⟩
    · exact ⟨_, rfl, rfl⟩
    · exact ⟨s.restart 255, congrArg _ (State.ifRunning_of_running run _), rfl⟩

end Sys2Proof.Machine
end

section
/-! What the freshness of the records rests on, and the shared operations, command entries, frames and resets that keep it
(R112, R120, R125, R150, R155). -/

namespace Sys2Proof.Machine

/-! ## What the freshness of the records rests on -/

/-- The records and what they are tested with: the limits, the epoch count, the sun records, the receiver record, the sets of
the Peer Table, and whether a load has passed. -/
def State.recordView (s : State) :
    StationConfig × BitVec 32 × Vector (Option SunRecord) 8 × Option RxRecord × Vector PeerSet 32 × Bool :=
  (s.cfg, s.bi.epoch, s.rs.sun, s.rs.receiver, s.pt.sets, s.sc.state.loaded)

/-- No sun record, no receiver record and no peer entry is valid. -/
def State.RecordsEmpty (s : State) : Prop :=
  (∀ i : Fin 8, s.rs.sun[i] = none) ∧ s.rs.receiver = none ∧
    ∀ i : Fin 32, s.pt.sets[i].way0 = none ∧ s.pt.sets[i].way1 = none

/-- No valid record is older than its limit, and none is valid before a load passes. -/
structure State.Fresh (s : State) : Prop where
  fresh : RecordsFresh s
  clear : RecordsClear s

/-- R125, R155: nothing is asked of the records of a station that has loaded. -/
theorem State.recordsClear_of_loaded {s : State} (loaded : s.sc.state.loaded = true) : RecordsClear s :=
  fun unloaded => absurd (loaded.symm.trans unloaded) nofun

/-- R120: what the age test leaves of the receiver record is fresh. -/
theorem State.freshReceiver_staleTest (s : State) :
    freshReceiver s.bi.epoch s.cfg.rxStale (if s.receiverStale then none else s.rs.receiver) = true := by
  split
  · rfl
  · rename_i young
    cases valid : s.rs.receiver with
    | none => rfl
    | some r => simpa [State.receiverStale, valid, freshReceiver] using young

/-- R13: an entry that follows the interest set keeps its age. -/
theorem freshPeer_restrictEntry {maxAge : Nat} {e : Option PeerEntry} (fresh : freshPeer maxAge e = true)
    (zones : List Nat) : freshPeer maxAge (restrictEntry zones e) = true := by
  obtain gone | ⟨x, y, valid, kept, age, -⟩ := restrictEntry_cases zones e
  · rw [gone]
    rfl
  · rw [kept, freshPeer, age]
    rwa [valid] at fresh

/-- R112, R120: a record received in this epoch has age 0. -/
@[simp] theorem ageOf_self (now : BitVec 32) : ageOf now now = 0 := by simp [ageOf]

/-- A change of the station state ends in the state it is a change to. -/
theorem State.toState_state (s : State) (new : StationState) : (s.toState new).sc.state = new := by
  have cut : ∀ t : State, t.cutFrame.sc = t.sc := fun t => by
    obtain ⟨-, e⟩ | ⟨-, e⟩ | ⟨-, e⟩ := t.cutFrame_cases <;> rw [e] <;> rfl
  simp only [State.toState]
  split
  · rfl
  · rw [cut]

namespace State.Fresh

variable {s t : State}

/-- Where no record is valid, none is older than its limit. -/
theorem of_empty (empty : s.RecordsEmpty) : s.Fresh where
  fresh := by
    obtain ⟨sun, receiver, peers⟩ := empty
    refine ⟨fun i => ?_, ?_, fun i => ?_⟩
    · rw [sun i]
      rfl
    · rw [receiver]
      rfl
    · rw [(peers i).1, (peers i).2]
      exact ⟨rfl, rfl⟩
  clear _ := empty

/-- An operation on other registers alone. -/
theorem of_view (ok : s.Fresh) (same : t.recordView = s.recordView) : t.Fresh := by
  obtain ⟨fresh, clear⟩ := ok
  simp only [State.recordView, Prod.mk.injEq] at same
  obtain ⟨cfg, epoch, sun, receiver, sets, loaded⟩ := same
  constructor
  · rw [RecordsFresh, cfg, epoch, sun, receiver, sets]
    exact fresh
  · rw [RecordsClear, loaded, sun, receiver, sets]
    exact clear

/-- A part of an epoch start that ends in a state that follows a load. -/
theorem of_kept (ok : s.Fresh) (kept : State.EpochKept s t) (loaded : t.sc.state.loaded = true) : t.Fresh where
  fresh := by
    have sets : t.pt = s.pt := by rw [kept.rest]
    have receiver : t.rs.receiver = s.rs.receiver := by rw [kept.records]
    rw [RecordsFresh, kept.cfg, kept.epoch, kept.sun, receiver, sets]
    exact ok.fresh
  clear := State.recordsClear_of_loaded loaded

theorem of_turned (ok : s.Fresh) (turned : State.Turned s t) : t.Fresh :=
  ok.of_view (by rw [turned]; rfl)

/-! ## Shared operations -/

theorem change {f : State → State} (ok : (f s).Fresh) : (s.change f).Fresh := ok.of_view (by simp [State.recordView])

theorem ifRunning {f : State → State} (ok : s.Fresh) (step : s.running = true → (f s).Fresh) : (s.ifRunning f).Fresh := by
  simp only [State.ifRunning]
  split
  · exact step ‹_›
  · exact ok

/-- R111, R112: one sun record replaced. -/
theorem setSun (ok : s.Fresh) (loaded : s.sc.state.loaded = true) {k : Fin 8} {r : Option SunRecord}
    (young : freshSun s.bi.epoch s.cfg.sunHorizon r = true) :
    State.Fresh { s with rs := { s.rs with sun := s.rs.sun.set k r } } := by
  obtain ⟨⟨sun, others⟩, -⟩ := ok
  refine ⟨⟨fun i => ?_, others⟩, State.recordsClear_of_loaded loaded⟩
  by_cases here : k = i
  · subst here
    simpa using young
  · have apart : k.val ≠ i.val := fun e => here (Fin.ext e)
    simpa [Vector.getElem_set_ne, apart] using sun i

/-- R119, R120: the receiver record replaced. -/
theorem setReceiver (ok : s.Fresh) (loaded : s.sc.state.loaded = true) {r : Option RxRecord}
    (young : freshReceiver s.bi.epoch s.cfg.rxStale r = true) :
    State.Fresh { s with rs := { s.rs with receiver := r } } := by
  obtain ⟨⟨sun, -, peers⟩, -⟩ := ok
  exact ⟨⟨sun, young, peers⟩, State.recordsClear_of_loaded loaded⟩

/-- R144, R145, R150: one way of a set written or invalidated. -/
theorem setWay (ok : s.Fresh) (loaded : s.sc.state.loaded = true) {i : Fin 32} {way1 lru : Bool} {e : Option PeerEntry}
    (young : freshPeer s.cfg.peerAgeMax e = true) :
    (s.setPeerSet i { (s.pt.sets[i].setWay way1 e) with lru := lru }).Fresh := by
  obtain ⟨⟨sun, receiver, peers⟩, -⟩ := ok
  refine ⟨⟨sun, receiver, fun j => ?_⟩, State.recordsClear_of_loaded loaded⟩
  by_cases here : i = j
  · subst here
    obtain ⟨young0, young1⟩ := peers i
    simp only [State.setPeerSet, Fin.getElem_fin, Vector.getElem_set_self]
    cases way1
    · exact ⟨young, young1⟩
    · exact ⟨young0, young⟩
  · have apart : i.val ≠ j.val := fun e => here (Fin.ext e)
    simpa [State.setPeerSet, Vector.getElem_set_ne, apart] using peers j

theorem cutFrame (ok : s.Fresh) : s.cutFrame.Fresh := by
  obtain ⟨-, e⟩ | ⟨-, e⟩ | ⟨-, e⟩ := s.cutFrame_cases <;> rw [e]
  · exact ok
  · exact ok.of_view rfl
  · exact ok.of_view rfl

/-- R13: the Peer Table follows the interest set. -/
theorem recomputeInterest (ok : s.Fresh) : s.recomputeInterest.Fresh := by
  obtain ⟨⟨sun, receiver, peers⟩, clear⟩ := ok
  have ways : ∀ i : Fin 32, s.recomputeInterest.pt.sets[i].way0 = restrictEntry s.interestZones s.pt.sets[i].way0 ∧
      s.recomputeInterest.pt.sets[i].way1 = restrictEntry s.interestZones s.pt.sets[i].way1 := fun i => by
    simp [State.recomputeInterest, PeerTable.follow]
  refine ⟨⟨sun, receiver, fun i => ?_⟩, fun unloaded => ?_⟩
  · obtain ⟨way0, way1⟩ := ways i
    rw [way0, way1]
    exact ⟨freshPeer_restrictEntry (peers i).1 _, freshPeer_restrictEntry (peers i).2 _⟩
  · obtain ⟨noSun, noReceiver, noPeers⟩ := clear unloaded
    refine ⟨noSun, noReceiver, fun i => ?_⟩
    obtain ⟨way0, way1⟩ := ways i
    rw [way0, way1, (noPeers i).1, (noPeers i).2]
    exact ⟨rfl, rfl⟩

/-! ## Changes of the station state (R185 to R191) -/

theorem toState (ok : s.Fresh) {new : StationState} (loaded : new.loaded = true) : (s.toState new).Fresh :=
  ok.of_kept (Governed.toState s new).toEpochKept (by rw [State.toState_state]; exact loaded)

theorem becomeSilent (ok : s.Fresh) : s.becomeSilent.Fresh := by
  simp only [State.becomeSilent]
  exact (ok.toState (new := .silent) rfl).of_view rfl

theorem becomeIsolated (ok : s.Fresh) : s.becomeIsolated.Fresh := by
  simp only [State.becomeIsolated]
  exact (ok.toState (new := .isolated) rfl).of_view rfl

theorem becomeNight (ok : s.Fresh) : s.becomeNight.Fresh := (ok.toState (new := .night) rfl).of_view rfl

/-! ## Command entries -/

theorem answer (ok : s.Fresh) {k hf : Byte} {r : Result} : (s.answer k hf r).Fresh := by
  have epoch : (s.answer k hf r).bi.epoch = s.bi.epoch := by rw [(s.answer_spec k hf r).1]
  exact ok.of_view (by simp [State.recordView, epoch])

theorem takeCommand {k hf : Byte} {f : State → Result × State} (ok : (f s).2.Fresh) : (s.takeCommand k hf f).Fresh :=
  (change (f := fun s => (f s).2) ok).answer

theorem stationWide {f : State → Result × State} (ok : s.Fresh) {hf : Byte} (taken : (f s).2.Fresh) :
    (stationWide hf f s).2.Fresh := by
  simp only [Machine.stationWide]
  split
  · exact taken
  · exact ok

theorem stowRelease (ok : s.Fresh) : (stowReleaseEffect s).2.Fresh := by
  rw [stowReleaseEffect_eq]
  split_ifs <;> exact ok.of_view rfl

theorem standbyClear (ok : s.Fresh) : (standbyClearEffect s).2.Fresh := by
  simp only [standbyClearEffect]
  split <;> exact ok.of_view rfl

theorem hold (ok : s.Fresh) {hf : Byte} {t : Steps} : (holdEffect hf t s).2.Fresh := by
  simp only [holdEffect]
  split
  · exact ok
  · split <;> exact ok.of_view rfl

theorem holdRelease (ok : s.Fresh) {hf : Byte} : (holdReleaseEffect hf s).2.Fresh := by
  simp only [holdReleaseEffect]
  split
  · exact ok
  · split <;> exact ok.of_view rfl

/-- R13, R14: SERVICE-OUT recomputes the interest set. -/
theorem serviceOut (ok : s.Fresh) {hf : Byte} : (serviceOutEffect hf s).2.Fresh := by
  simp only [serviceOutEffect]
  split
  · exact ok
  · rename_i i _
    split
    · have out : (s.updateHelio i Helio.takeOut).Fresh := ok.of_view rfl
      exact out.recomputeInterest
    · exact ok

/-- R13, R15: SERVICE-IN recomputes the interest set. -/
theorem serviceIn (ok : s.Fresh) {hf : Byte} : (serviceInEffect hf s).2.Fresh := by
  simp only [serviceInEffect]
  split
  · exact ok
  · rename_i i _
    split_ifs
    · exact ok
    · exact ok
    · have taken : (s.change fun s => s.updateHelio i Helio.takeIn).Fresh := change (ok.of_view rfl)
      exact (change (f := fun s => s.updateHelio i Helio.homingStart) (taken.of_view rfl)).recomputeInterest

theorem correct (ok : s.Fresh) {hf : Byte} {x y : Int} : (correctEffect hf x y s).2.Fresh := by
  simp only [correctEffect]
  split
  · exact ok
  · split <;> exact ok.of_view rfl

theorem rehome (ok : s.Fresh) {hf : Byte} : (rehomeEffect hf s).2.Fresh := by
  simp only [rehomeEffect]
  split
  · dsimp only
    exact ok.of_turned (.rehomeAll s)
  · split
    · exact ok
    · split <;> exact ok.of_view rfl

theorem activateCode (ok : s.Fresh) : s.activateCode.Fresh := by
  simp only [State.activateCode]
  split <;> exact ok.of_view rfl

theorem releaseCode (ok : s.Fresh) : s.releaseCode.Fresh := by
  simp only [State.releaseCode]
  split <;> exact ok.of_view rfl

theorem defocusRelease (ok : s.Fresh) : (defocusReleaseEffect s).2.Fresh := by
  simp only [defocusReleaseEffect]
  split_ifs
  · exact ok
  · exact ok.releaseCode
  · exact ok

theorem report (ok : s.Fresh) {hf : Byte} : (reportEffect hf s).2.Fresh := by
  simp only [reportEffect]
  split
  · exact ok.of_view rfl
  · split <;> exact ok.of_view rfl

/-! ## Resets and the end of a load (R125, R155, R182, R184, R192 to R195) -/

/-- R125, R155: a reset leaves no record valid. -/
theorem of_blank (rs : s.rs = .blank) (pt : s.pt = .blank) : s.Fresh :=
  of_empty (by rw [State.RecordsEmpty, rs, pt]; simp [RefStore.blank, PeerTable.blank])

theorem restart (ok : s.Fresh) {hf : Byte} : (s.restart hf).Fresh := by
  simp only [State.restart]
  split
  · exact of_blank rfl rfl
  · exact ok.answer

theorem loadIfReleased (ok : t.Fresh) : (s.loadIfReleased t).Fresh := by
  rw [State.loadIfReleased_eq]
  exact ok.of_view rfl

theorem powerOnReset (ok : s.Fresh) {inForce : Bool} : (s.powerOnReset inForce).Fresh := by
  simp only [State.powerOnReset]
  split
  · exact of_blank rfl rfl
  · exact loadIfReleased (ok.of_view rfl)

theorem resetPin (ok : s.Fresh) {active : Bool} : (s.resetPin active).Fresh := by
  simp only [State.resetPin]
  split
  · exact of_blank rfl rfl
  · exact loadIfReleased (ok.of_view rfl)

/-- R125, R155, R184: a load that passes finds no record valid, and makes none. -/
theorem passLoad (empty : s.RecordsEmpty) (v : ImageValues) : (s.passLoad v).Fresh := by
  obtain ⟨-, -, -, -, whole⟩ := s.passLoad_eq v
  obtain ⟨sun, receiver, peers⟩ := empty
  have follow : ∀ i : Fin 32, (s.takeImage v).pt.sets[i].way0 = none ∧ (s.takeImage v).pt.sets[i].way1 = none := fun i => by
    obtain ⟨way0, way1⟩ := peers i
    rw [Fin.getElem_fin] at way0 way1
    simp [State.takeImage, State.recomputeInterest, PeerTable.follow, restrictEntry, way0, way1]
  generalize s.passLoad v = t at whole
  rw [whole]
  exact of_empty ⟨sun, receiver, follow⟩

theorem endLoad (ok : s.Fresh) (loading : s.sc.state = .loading) {image : List Byte} : (s.endLoad image).Fresh := by
  have empty : s.RecordsEmpty := ok.clear (by rw [loading]; rfl)
  cases judged : judgeImage s.sc.number image with
  | none =>
    rw [State.endLoad_of_refused judged]
    exact of_empty empty
  | some v =>
    rw [State.endLoad_of_passed judged]
    refine passLoad ?_ v
    exact empty

end State.Fresh
end Sys2Proof.Machine
end

section
/-! The records through the frames, the epoch, the tick and the pins; every row and every step (R112, R120, R150). -/

namespace Sys2Proof.Machine

/-- A row that is no reset leaves a station that has loaded in a state that follows a load. -/
theorem State.Kept.still_loaded {s t : State} (kept : State.Kept .busLost s t) (loaded : s.sc.state.loaded = true) :
    t.sc.state.loaded = true := (kept.loaded loaded).resolve_right (by simp [Instr.Resets])

namespace State.Fresh

variable {s t : State}

/-! ## Frames (R90 to R94, R102, R111, R119, R141 to R147) -/

theorem takeEntry (ok : s.Fresh) {e : CommandEntry} : (s.takeEntry e).Fresh := by
  simp only [State.takeEntry]
  split
  · exact takeCommand (ok.stationWide (ok.of_view rfl))
  · exact takeCommand (ok.stationWide ok.stowRelease)
  · exact takeCommand (ok.stationWide (ok.of_view rfl))
  · exact takeCommand (ok.stationWide ok.standbyClear)
  · exact takeCommand ok.hold
  · exact takeCommand ok.holdRelease
  · exact takeCommand ok.serviceOut
  · exact takeCommand ok.serviceIn
  · exact takeCommand ok.correct
  · exact takeCommand ok.rehome
  · exact takeCommand (ok.stationWide ok.defocusRelease)
  · exact takeCommand (ok.stationWide (ok.of_view rfl))
  · exact takeCommand (ok.stationWide (ok.of_view rfl))
  · exact takeCommand ok.report
  · exact ok.restart
  · exact ok.answer

theorem takeEntries (ok : s.Fresh) {es : List CommandEntry} : (s.takeEntries es).Fresh := by
  induction es generalizing s with
  | nil => exact ok
  | cons e rest ih =>
    simp only [State.takeEntries]
    split_ifs
    · exact ok.takeEntry
    · exact ih ok.takeEntry
    · exact ih ok

/-- R111: a taken sun record has age 0. -/
theorem takeSun (ok : s.Fresh) (loaded : s.sc.state.loaded = true) {slot : Fin 8} {s0 r : FrameVec} :
    (s.takeSun slot s0 r).Fresh := ok.setSun loaded (by simp [freshSun])

/-- R119: a taken receiver record has age 0. -/
theorem takeReceiver (ok : s.Fresh) (loaded : s.sc.state.loaded = true) {st : Byte} {zones : List ZoneReading} :
    (s.takeReceiver st zones).Fresh := by
  simp only [State.takeReceiver]
  split
  · exact ok
  · exact (ok.setReceiver loaded (by simp [freshReceiver])).of_view rfl

/-- R144, R145, R147: a lookup writes a peer entry at age 0, or invalidates one. -/
theorem lookUpPeer (ok : s.Fresh) (loaded : s.sc.state.loaded = true) {station : Nat} {items : List PlanItem} :
    (s.lookUpPeer station items).Fresh := by
  obtain ⟨w, -, -, e⟩ | ⟨w, -, -, e⟩ | ⟨-, -, e⟩ | ⟨-, -, e⟩ := s.lookUpPeer_cases station items <;> rw [e]
  · exact ok.setWay loaded (by simp [freshPeer])
  · exact ok.setWay loaded rfl
  · exact ok
  · rw [State.evict_frame]
    generalize (s.evict _).pt.residue = residue
    generalize (s.evict _).fa.zoneSat = zoneSat
    have moved : State.Fresh { s with
        pt := { s.pt with residue := residue }, fa := { s.fa with zoneSat := zoneSat } } := ok.of_view rfl
    exact moved.setWay loaded (by simp [freshPeer])

theorem hearOwnNumber (ok : s.Fresh) : s.hearOwnNumber.Fresh := by
  have heard : State.Fresh { s with bi := { s.bi with heardOwnSlot := true } } := ok.of_view rfl
  simp only [State.hearOwnNumber]
  split
  · exact heard.becomeSilent
  · exact heard

theorem takeFrame (ok : s.Fresh) (loaded : s.sc.state.loaded = true) {slot : Nat} {body : FrameBody} :
    (s.takeFrame slot body).Fresh := by
  have heard : (s.change State.hear).Fresh := change (ok.of_view rfl)
  have loaded : (s.change State.hear).sc.state.loaded = true := by rw [State.change_sc]; exact loaded
  cases body <;> simp only [State.takeFrame]
  case sun => exact heard.takeSun loaded
  case receiver => exact change (heard.takeReceiver loaded)
  case command es => exact heard.takeEntries
  case contribution =>
    split
    · exact change heard.hearOwnNumber
    · exact change (heard.lookUpPeer loaded)

theorem receiveBody (ok : s.Fresh) {slot : Nat} {body : FrameBody} : (s.receiveBody slot body).Fresh := by
  simp only [State.receiveBody]
  split
  · rename_i accepted
    split
    · exact ok.of_view rfl
    · exact ok.takeFrame ((State.running_iff s).1 (State.running_of_accepts accepted)).2
  · exact ok

theorem receiveRaw (ok : s.Fresh) {raw : RawFrame} : (s.receiveRaw raw).Fresh := by
  simp only [State.receiveRaw]
  split
  · rename_i accepted
    simp only [State.accepts, Bool.and_eq_true] at accepted
    obtain ⟨⟨⟨run, -⟩, -⟩, -⟩ := accepted
    split
    · exact ok.of_view rfl
    · exact ok.takeFrame ((State.running_iff s).1 run).2
  · exact ok

/-! ## The own frame (R95 to R97, R162 to R174) -/

theorem supplyPlan (ok : s.Fresh) : s.supplyPlan.Fresh := by
  simp only [State.supplyPlan]
  split <;> exact ok.of_view rfl

theorem buildFrame (ok : s.Fresh) : s.buildFrame.Fresh := (change ok.supplyPlan).of_view rfl

theorem frameStart (ok : s.Fresh) : s.frameStart.Fresh := by
  simp only [State.frameStart]
  split_ifs
  · exact ok.of_view rfl
  · exact ok.cutFrame
  · exact ok

theorem echoAbort (ok : s.Fresh) : s.echoAbort.Fresh := ok.cutFrame.of_view rfl

theorem completeFrame (ok : s.Fresh) : s.completeFrame.Fresh := ok.of_view rfl

/-! ## Aim ticks (R19 to R23, R116, R118, R190) -/

theorem continueTick (ok : s.Fresh) {p : TickProgress} {stop : Nat} : (s.continueTick p stop).Fresh :=
  ok.of_view (by rw [State.continueTick_frame]; rfl)

theorem dawn (ok : s.Fresh) : s.dawn.Fresh := by
  have counted : State.Fresh { s with rs := { s.rs with nightCount := 0 } } := ok.of_view rfl
  simp only [State.dawn]
  generalize ({ s with rs := { s.rs with nightCount := 0 } } : State) = t at counted
  have homed : (t.change State.dawnRehome).Fresh := change (counted.of_turned (.dawnRehome t))
  generalize t.change State.dawnRehome = u at homed
  exact change (toState (new := .operating) (change (homed.of_view rfl)) rfl)

theorem beginTurns (ok : s.Fresh) {sun : Vec3} {stop : Nat} : (s.beginTurns sun stop).Fresh := by
  simp only [State.beginTurns]
  split
  · exact ok.continueTick
  · exact ok

theorem updateSunSource (ok : s.Fresh) {lost : Bool} : (s.updateSunSource lost).Fresh := by
  simp only [State.updateSunSource]
  split <;> exact ok.of_view rfl

theorem evaluateTick (ok : s.Fresh) {sun : Option Vec3} {stop : Nat} : (s.evaluateTick sun stop).Fresh := by
  have updated : (s.change fun s => s.updateSunSource sun.isNone).Fresh := change ok.updateSunSource
  simp only [State.evaluateTick]
  split
  · exact updated
  · split
    · exact updated.dawn.beginTurns
    · exact updated.beginTurns

theorem aimTick (ok : s.Fresh) {offset stop : Nat} : (s.aimTick offset stop).Fresh := by
  simp only [State.aimTick, State.startTick]
  split
  · exact ok.continueTick
  · split_ifs
    · exact evaluateTick (s := s.tickTaken offset) (ok.of_view rfl)
    · exact ok
    · exact ok

/-! ## Slots, epochs and marks (R87 to R100, R112, R120, R150) -/

theorem countSlot (ok : s.Fresh) : s.countSlot.Fresh := by
  rw [State.countSlot_eq]
  exact ok.of_view rfl

theorem settleOwnSlot (ok : s.Fresh) : s.settleOwnSlot.Fresh := by
  rw [State.settleOwnSlot_eq]
  exact ok.of_view rfl

theorem startSlot (ok : s.Fresh) {slot : Nat} : (s.startSlot slot).Fresh := by
  have entered : State.Fresh { s with bi := s.bi.enterSlot slot } := ok.of_view rfl
  have settled := entered.settleOwnSlot
  simp only [State.startSlot]
  split_ifs
  · exact (change settled.countSlot).of_view rfl
  · exact change settled.countSlot
  · exact settled

/-- R112, R120, R150: an epoch start of a running station tests every record anew, whatever its age in the epoch that ended;
before a load it tests none, and none is valid. -/
theorem makeEpochStart (clear : RecordsClear s) (released : s.inReset = false) (first : Bool) :
    (s.makeEpochStart first).Fresh := by
  cases loaded : s.sc.state.loaded with
  | false =>
    have idle : s.makeEpochStart first = s.scheduleTicks :=
      if_neg (by simp [State.running, State.scheduleTicks, loaded])
    rw [idle]
    exact of_empty (clear loaded)
  | true =>
    have made := State.makeEpochStart_made ((State.running_iff s).2 ⟨released, loaded⟩) first
    have still : (s.makeEpochStart first).sc.state.loaded = true :=
      (State.Kept.makeEpochStart first s).still_loaded loaded
    generalize s.makeEpochStart first = t at made still
    have cfg : t.cfg = s.cfg := by rw [made.rest]
    have epoch : t.bi.epoch = s.bi.epoch := by rw [made.bus]
    refine ⟨⟨fun k => ?_, ?_, fun i => ?_⟩, State.recordsClear_of_loaded still⟩
    · rw [made.sun k, cfg, epoch]
      exact freshSun_expireSun ..
    · rw [made.receiver, cfg, epoch]
      exact s.freshReceiver_staleTest
    · rw [made.peers, cfg]
      exact PeerTable.atEpoch_fresh _ _ _ i i.isLt

/-- R87: an own wrap. -/
theorem wrap (ok : s.Fresh) (released : s.inReset = false) {first : Bool} : (s.wrap first).Fresh := by
  have frame := s.wrapped_begun.rest
  rw [State.wrap_eq]
  refine makeEpochStart ?_ ?_ first
  · rw [frame]
    exact ok.clear
  · rw [frame]
    exact released

/-- R88: a mark outside the window. -/
theorem markEpoch (ok : s.Fresh) (released : s.inReset = false) {first : Bool} : (s.markEpoch first).Fresh := by
  have settled := ok.cutFrame.settleOwnSlot
  have sc : s.cutFrame.settleOwnSlot.sc = s.sc := by
    rw [State.settleOwnSlot_eq]
    obtain ⟨-, e⟩ | ⟨-, e⟩ | ⟨-, e⟩ := s.cutFrame_cases <;> rw [e] <;> rfl
  have still : s.cutFrame.settleOwnSlot.inReset = false := by rw [State.inReset, sc]; exact released
  simp only [State.markEpoch]
  refine makeEpochStart ?_ ?_ first
  · exact settled.clear
  · exact still

theorem timeMark (ok : s.Fresh) (released : s.inReset = false) {first : Bool} : (s.timeMark first).Fresh := by
  have marked : (s.change fun s => { s with bi := s.bi.marked }).Fresh := change (ok.of_view rfl)
  simp only [State.timeMark]
  split
  · exact marked.of_view rfl
  · exact marked.markEpoch (by rw [State.inReset, State.change_sc]; exact released)

theorem markLostTest (ok : s.Fresh) : s.markLostTest.Fresh := by
  simp only [State.markLostTest]
  split <;> exact ok.of_view rfl

theorem closeWindow (ok : s.Fresh) : s.closeWindow.Fresh := by
  simp only [State.closeWindow]
  split
  · exact change (markLostTest (ok.of_view rfl))
  · exact ok

theorem unlessReset {f : State → State} (ok : s.Fresh) (step : s.inReset = false → (f s).Fresh) :
    (s.unlessReset f).Fresh := by
  simp only [State.unlessReset]
  split
  · exact ok
  · rename_i released
    exact step (Bool.eq_false_iff.2 released)

theorem unlessCut {f : State → State} (ok : s.Fresh) (step : s.inReset = false → (f s).Fresh) :
    (s.unlessCut f).Fresh := by
  simp only [State.unlessCut]
  split
  · exact ok
  · exact ok.unlessReset step

theorem rxStaleTest (ok : s.Fresh) (loaded : s.sc.state.loaded = true) : s.rxStaleTest.Fresh := by
  obtain ⟨v, -, e⟩ := s.rxStaleTest_eq
  rw [e]
  exact (ok.setReceiver loaded s.freshReceiver_staleTest).of_view rfl

/-! ## The defocus code, the pins and the axes -/

theorem receiveBit (ok : s.Fresh) {first bit : Bool} : (s.receiveBit first bit).Fresh := by
  have activated : ∀ t : State, t.Fresh → (if s.activateDetected bit then t.change State.activateCode else t).Fresh :=
    fun t ok => by
      split
      · exact change ok.activateCode
      · exact ok
  have released : ∀ t : State, t.Fresh → (if s.releaseDetected bit then t.change State.releaseCode else t).Fresh :=
    fun t ok => by
      split
      · exact change ok.releaseCode
      · exact ok
  have fed : (s.feedBit bit).Fresh := ok.of_view rfl
  simp only [State.receiveBit]
  split
  · split
    · exact released _ (activated _ fed)
    · exact activated _ (released _ fed)
  · exact ok

theorem endGeneration (ok : s.Fresh) : s.endGeneration.Fresh := by
  simp only [State.endGeneration]
  split <;> exact ok.of_view rfl

theorem stowInput (ok : s.Fresh) {active : Bool} : (s.stowInput active).Fresh := by
  simp only [State.stowInput]
  split
  · exact change (ok.of_view rfl)
  · exact ok.of_view rfl

theorem tripInput (ok : s.Fresh) {active : Bool} : (s.tripInput active).Fresh := by
  have shown : State.Fresh { s with tripin := active } := ok.of_view rfl
  simp only [State.tripInput]
  split
  · refine change (f := State.startGeneration) ?_
    simp only [State.startGeneration]
    exact activateCode (shown.cutFrame.of_view rfl)
  · exact shown

theorem axisStep (ok : s.Fresh) {i : Fin 8} {a : AxisId} : (s.axisStep i a).Fresh := by
  simp only [State.axisStep]
  split <;> exact ok.of_view rfl

theorem homefail (ok : s.Fresh) {i : Fin 8} {a : AxisId} : (s.homefail i a).Fresh := by
  simp only [State.homefail]
  split <;> exact ok.of_view rfl

theorem indexEdge (ok : s.Fresh) {i : Fin 8} {a : AxisId} {level : Bool} : (s.indexEdge i a level).Fresh := by
  have rise : ∀ t : State, t.Fresh → (t.indexRise i a).Fresh := fun t ok => by
    simp only [State.indexRise]
    split_ifs <;> exact ok.of_view rfl
  simp only [State.indexEdge]
  split
  · exact change (rise _ (ok.of_view rfl))
  · exact ok.of_view rfl

theorem driveFault (ok : s.Fresh) {i : Fin 8} {active : Bool} : (s.driveFault i active).Fresh := by
  simp only [State.driveFault]
  split
  · exact change (ok.of_view rfl)
  · exact ok.of_view rfl

/-! ## Every row and every microsecond -/

theorem tick (ok : s.Fresh) : s.tick.Fresh := by
  simp only [State.tick]
  split <;> exact ok.of_view rfl

/-- R112, R120, R150: whatever the row, it leaves no valid record older than its limit. -/
theorem of_exec {c : Instr} (ok : s.Fresh) (h : exec c s = .next t) : t.Fresh := by
  have loaded : s.running = true → s.sc.state.loaded = true := fun run => ((State.running_iff s).1 run).2
  cases c <;> cases h
  case stowField | standbySet | clearAlerts | clearSticky =>
    exact ok.ifRunning fun _ => takeCommand (ok.stationWide (ok.of_view rfl))
  case stowRelease => exact ok.ifRunning fun _ => takeCommand (ok.stationWide ok.stowRelease)
  case standbyClear => exact ok.ifRunning fun _ => takeCommand (ok.stationWide ok.standbyClear)
  case hold => exact ok.ifRunning fun _ => takeCommand ok.hold
  case holdRelease => exact ok.ifRunning fun _ => takeCommand ok.holdRelease
  case serviceOut => exact ok.ifRunning fun _ => takeCommand ok.serviceOut
  case serviceIn => exact ok.ifRunning fun _ => takeCommand ok.serviceIn
  case correct => exact ok.ifRunning fun _ => takeCommand ok.correct
  case rehome => exact ok.ifRunning fun _ => takeCommand ok.rehome
  case defocusRelease => exact ok.ifRunning fun _ => takeCommand (ok.stationWide ok.defocusRelease)
  case report => exact ok.ifRunning fun _ => takeCommand ok.report
  case restart => exact ok.ifRunning fun _ => ok.restart
  case reservedCommand =>
    refine ok.ifRunning fun _ => ?_
    split
    · exact ok.answer
    · exact ok
  case sunFrame | receiverFrame | contributionFrame | commandFrame => exact ok.receiveBody
  case ownNumberFrame =>
    show State.Fresh (ite _ _ _)
    split
    · exact ok.takeFrame (loaded (State.running_of_accepts ‹_›))
    · exact ok
  case frameDropped => exact ok.receiveRaw
  case epochStart => exact ok.unlessCut fun released => ok.wrap released
  case timeMark => exact ok.unlessReset fun released => ok.timeMark released
  case markWindowClose => exact ok.unlessReset fun _ => ok.closeWindow
  case markLost => exact ok.unlessReset fun _ => change ok.markLostTest
  case slotStart =>
    refine ok.unlessCut fun _ => ?_
    split
    · exact ok.startSlot
    · exact ok
  case busLost =>
    refine ok.ifRunning fun _ => change ?_
    simp only [State.busLostTest]
    split <;> exact ok.of_view rfl
  case build =>
    show State.Fresh (ite _ _ _)
    split
    · exact ok.buildFrame
    · exact ok
  case frameBegin => exact ok.ifRunning fun _ => ok.frameStart
  case transmitCompletion =>
    refine ok.ifRunning fun _ => ?_
    split
    · exact ok.completeFrame
    · exact ok
  case echoMismatch =>
    refine ok.ifRunning fun _ => ?_
    split
    · exact ok.echoAbort
    · exact ok
  case enterSilent =>
    refine ok.ifRunning fun _ => ?_
    split
    · exact change ok.becomeSilent
    · exact ok
  case enterIsolated =>
    refine ok.ifRunning fun _ => ?_
    split
    · exact change ok.becomeIsolated
    · exact ok
  case enterNight =>
    refine ok.ifRunning fun _ => ?_
    split
    · have stored : s.storeIsoCount.Fresh := ok.of_view rfl
      exact change stored.becomeNight
    · exact ok
  case sunRecordExpiry => exact ok.ifRunning fun run => ok.setSun (loaded run) (freshSun_expireSun ..)
  case rxStale => exact ok.ifRunning fun run => change (ok.rxStaleTest (loaded run))
  case peerAgeOut =>
    exact ok.ifRunning fun run => ok.setWay (loaded run) (freshPeer_expireEntry ..)
  case residueExpiry | dniPulse => exact ok.ifRunning fun _ => ok.of_view rfl
  case aimTick => exact ok.ifRunning fun _ => ok.aimTick
  case axisStep =>
    show State.Fresh (ite _ _ _)
    split
    · exact ok
    · exact change ok.axisStep
  case indexEdge => exact ok.indexEdge
  case homefail =>
    show State.Fresh (ite _ _ _)
    split
    · exact ok
    · exact change ok.homefail
  case driveFault => exact ok.driveFault
  case stowInputChange => exact ok.stowInput
  case tripEdge => exact ok.tripInput
  case generationEnd => exact ok.ifRunning fun _ => ok.endGeneration
  case activateDetection | releaseDetection | detectorLock => exact ok.receiveBit
  case windowEnd => exact ok.ifRunning fun _ => change (ok.of_view rfl)
  case powerOnReset i =>
    have sampled : (s.strapsAt i.straps).Fresh := ok.of_view rfl
    exact sampled.powerOnReset
  case resetn i =>
    have sampled : (s.strapsAt i.straps).Fresh := ok.of_view rfl
    exact sampled.resetPin
  case loadEnd w image =>
    have sampled : (s.strapsAt w).Fresh := ok.of_view rfl
    show State.Fresh (ite _ _ _)
    split
    · rename_i begun
      exact sampled.endLoad begun.1
    · exact ok

end State.Fresh

/-- Settles O31: a step is one microsecond or a row, and each leaves the records fresh. -/
theorem recordsStayFresh : Obligations.RecordsStayFresh := by
  intro s t fresh clear h
  have ok : s.Fresh := ⟨fresh, clear⟩
  have after : t.Fresh := by
    cases waiting : s.pending with
    | nil =>
      rw [step_nil waiting] at h
      cases h
      exact ok.tick
    | cons c rest =>
      rw [step_cons waiting] at h
      exact State.Fresh.of_exec (s := { s with pending := rest }) (ok.of_view rfl) h
  exact ⟨after.fresh, after.clear⟩

end Sys2Proof.Machine
end

section
/-! Records past their age or at their expiry (R112, R120, R121, R150, R151). -/

namespace Sys2Proof.Machine

/-- R120, R121: where the receiver record has gone stale, its age test invalidates it and sets STANDBY RX. -/
theorem execRxStale_of_stale {s : State} (run : s.running = true) (stale : s.receiverStale = true) :
    ∃ t, exec .rxStale s = .next t ∧ t.rs = { s.rs with receiver := none } ∧
      t.src = { s.src with standbyRx := true } ∧ Recomputed s t ∧ Latched s t ∧
      t = { s with rs := t.rs, src := t.src, helios := t.helios, au := t.au } := by
  have loaded := ((State.running_iff s).1 run).2
  have tested : s.rxStaleTest = ({ s with rs := { s.rs with receiver := none } } : State).setSources
      fun src => { src with standbyRx := true } := if_pos stale
  have row : exec .rxStale s = .next (s.change State.rxStaleTest) :=
    congrArg _ (State.ifRunning_of_running run _)
  refine ⟨_, row, by simp [tested], by simp [tested], fun i => ?_, ?_, ?_⟩
  · rw [State.change_helios, State.change_src, tested, Fin.getElem_fin, State.setSources_helio]
    exact congrArg _ loaded
  · have still : s.rxStaleTest.running = true := by rw [tested]; exact run
    rw [Latched, State.change_au s _ run still, State.change_eq]
    rw [tested]
    rfl
  · rw [State.change_eq, tested]
    rfl

/-- Settles O30: each row makes the test of its rule on one record. -/
theorem recordsExpire : Obligations.RecordsExpire := by
  intro s run
  refine ⟨fun k r valid old => ?_, fun r valid old => execRxStale_of_stale run ?_, fun i w e valid old => ?_, fun z => ?_⟩
  · have gone : expireSun s.bi.epoch s.cfg.sunHorizon s.rs.sun[k] = none := by
      rw [valid]
      exact if_pos old
    refine congrArg _ ((State.ifRunning_of_running run _).trans ?_)
    rw [gone]
  · rw [State.receiverStale, valid]
    exact decide_eq_true old
  · have gone : expireEntry s.cfg.peerAgeMax (s.pt.sets[i].way w) = none := by
      rw [valid]
      exact if_pos old
    refine congrArg _ ((State.ifRunning_of_running run _).trans ?_)
    rw [PeerSet.expireWay, gone]
    rfl
  · have tested : (fun r : Residue => if r.zone = z.val then r.expire s.bi.epoch else r) = fun r =>
        if r.zone = z.val ∧ r.value ≠ 0 ∧ r.expiry = s.bi.epoch then { r with value := 0 } else r := by
      funext r
      by_cases here : r.zone = z.val <;> simp [Residue.expire, here]
    refine congrArg _ ((State.ifRunning_of_running run _).trans ?_)
    rw [tested]

end Sys2Proof.Machine
end

section
/-! The allowance of a zone (R123, R153, R164 to R166). -/

namespace Sys2Proof.Machine

/-! ## Sums over the ways of the Peer Table -/

/-- What the two ways of a set add to a sum over the valid entries. -/
def PeerSet.total (g : PeerEntry → Nat) (st : PeerSet) : Nat := st.way0.elim 0 g + st.way1.elim 0 g

/-- A sum over the valid entries, taken set by set and way by way. -/
theorem PeerTable.sum_entries (pt : PeerTable) (g : PeerEntry → Nat) :
    (pt.entries.map g).sum = ((List.finRange 32).map fun i => pt.sets[i].total g).sum := by
  have sets : pt.sets.toList = (List.finRange 32).map fun i => pt.sets[i] := by
    rw [← List.ofFn_eq_map, ← Vector.toList_ofFn]
    exact congrArg _ Vector.ofFn_getElem.symm
  have ways : ∀ st : PeerSet, ((st.way0.toList ++ st.way1.toList).map g).sum = st.total g := fun st => by
    cases h0 : st.way0 <;> cases h1 : st.way1 <;> simp [PeerSet.total, h0, h1]
  rw [PeerTable.entries, List.map_flatMap, List.flatMap_def, List.sum_flatten, List.map_map, sets, List.map_map]
  simp only [Function.comp_def, ways]

theorem plannedFor_eq (l : List PlanItem) (z : Nat) :
    plannedFor l z = (l.find? fun x => x.zone == z).elim 0 PlanItem.planned := by
  rw [plannedFor, itemFor]
  cases l.find? fun x => x.zone == z <;> rfl

theorem PeerTable.residueFor_eq (pt : PeerTable) (z : Nat) :
    pt.residueFor z = (pt.residue.find? fun r => r.zone == z).elim 0 Residue.value := by
  rw [PeerTable.residueFor]
  cases pt.residue.find? fun r => r.zone == z <;> rfl

/-- R164: the planned values of all valid entries, with the residue. -/
theorem PeerTable.exactSum_eq (pt : PeerTable) (z : Nat) : pt.exactSum z =
    ((List.finRange 32).map fun i => wayPlan z pt.sets[i].way0 + wayPlan z pt.sets[i].way1).sum +
      (pt.residue.find? fun r => r.zone == z).elim 0 Residue.value := by
  have way : ∀ e, wayPlan z e = e.elim 0 fun e => plannedFor e.items z := fun e => by
    cases e with
    | none => rfl
    | some e => exact (plannedFor_eq e.items z).symm
  simp only [PeerTable.exactSum, sum_entries, residueFor_eq, PeerSet.total, way]

/-- R164: this station, and each way that holds an item for the zone. -/
theorem PeerTable.claimants_eq (pt : PeerTable) (z : Nat) : pt.claimants z =
    1 + ((List.finRange 32).map fun i => wayClaims z pt.sets[i].way0 + wayClaims z pt.sets[i].way1).sum := by
  have way : ∀ e, wayClaims z e = e.elim 0 fun e => if (itemFor e.items z).isSome then 1 else 0 := fun e => by
    cases e with
    | none => rfl
    | some e => simp [wayClaims, itemFor, List.find?_isSome]
  have counted : ∀ l : List PeerEntry, (l.filter fun e => (itemFor e.items z).isSome).length =
      (l.map fun e => if (itemFor e.items z).isSome then 1 else 0).sum := fun l => by
    rw [List.sum_map_ite]
    simp
  simp only [PeerTable.claimants, counted, sum_entries, PeerSet.total, way]

/-- R164: two ways of 32 sets claim a zone at most, beside this station. -/
theorem PeerTable.claimants_le (pt : PeerTable) (z : Nat) : pt.claimants z ≤ 65 := by
  have way : ∀ e, wayClaims z e ≤ 1 := fun e => by
    cases e with
    | none => exact Nat.zero_le 1
    | some e =>
      rw [wayClaims]
      split <;> omega
  have sets := List.sum_le_card_nsmul
    ((List.finRange 32).map fun i => wayClaims z pt.sets[i].way0 + wayClaims z pt.sets[i].way1) 2 (by
      simp only [List.mem_map]
      rintro n ⟨i, -, rfl⟩
      exact Nat.add_le_add (way _) (way _))
  rw [List.length_map, List.length_finRange, smul_eq_mul] at sets
  rw [PeerTable.claimants_eq]
  omega

/-! ## What the receiver record gives for a zone (R123) -/

theorem RefStore.zoneFlux_of_none {rs : RefStore} (none : rs.receiver = none) (z : Nat) : rs.zoneFlux z = ⟨0, 0⟩ := by
  simp only [RefStore.zoneFlux, none]

theorem RefStore.zoneFlux_of_beyond {rs : RefStore} {r : RxRecord} (valid : rs.receiver = some r) {z : Nat}
    (beyond : r.zones.length ≤ z) : rs.zoneFlux z = ⟨0, 0⟩ := by
  simp only [RefStore.zoneFlux, valid, List.getElem?_eq_none beyond]

theorem RefStore.zoneFlux_of_some {rs : RefStore} {r : RxRecord} (valid : rs.receiver = some r) {z : Nat} {f : ZoneFlux}
    (here : r.zones[z]? = some f) : rs.zoneFlux z = ⟨if r.state.limitsApply then f.limit else 0, f.measured⟩ := by
  simp only [RefStore.zoneFlux, valid, here]

/-! ## The allowance (R165, R166) -/

/-- Settles O33: the record, the table and the plan give what the allowance is formed from, and R166 forms it. -/
theorem allowanceIsAFairShare : Obligations.AllowanceIsAFairShare := by
  intro s z residue peers claimants published others headroom
  have peersEq : s.peerFlux z = peers := congrArg (min · 65535) (s.pt.exactSum_eq z)
  have publishedEq : s.published z = published := plannedFor_eq s.fa.plan z
  have claimantsEq : s.pt.claimants z = claimants := s.pt.claimants_eq z
  have othersEq : s.othersFlux z = others := by rw [State.othersFlux, peersEq, publishedEq]
  have headroomEq : s.headroom z = headroom := by rw [State.headroom, othersEq]
  refine ⟨fun none => ?_, fun r valid => ⟨fun beyond => ?_, fun f here => ?_⟩, peersEq, publishedEq, claimantsEq,
    claimantsEq ▸ s.pt.claimants_pos z, claimantsEq ▸ s.pt.claimants_le z, othersEq, headroomEq, fun full => ?_,
    fun room => ⟨?_, headroomEq ▸ s.allowance_le_headroom z⟩⟩
  · rw [State.zoneLimit, State.zoneMeasured, RefStore.zoneFlux_of_none none]
    exact ⟨rfl, rfl⟩
  · rw [State.zoneLimit, State.zoneMeasured, RefStore.zoneFlux_of_beyond valid beyond]
    exact ⟨rfl, rfl⟩
  · rw [State.zoneLimit, State.zoneMeasured, RefStore.zoneFlux_of_some valid here]
    refine ⟨rfl, ?_, ?_⟩
    · rintro (e | e) <;> rw [e] <;> rfl
    · rintro (e | e) <;> rw [e] <;> rfl
  · rw [State.allowance, headroomEq, publishedEq, if_pos full]
  · rw [State.allowance, headroomEq, publishedEq, claimantsEq, if_neg (by omega)]

end Sys2Proof.Machine
end

section
/-! The defocus code (R126 to R136): the code state, the two detectors, and the clearing commands (R132, R199). -/

namespace Sys2Proof.Machine

/-! ## The code state (R130, R131) -/

/-- R130, R131: the code state takes a value, CODE with it. -/
def State.withCode (s : State) (on : Bool) : State :=
  ({ s with dcu := { s.dcu with active := on } } : State).setSources fun src => { src with code := on }

/-- R130, R131: a detection or a release moves the code state to a value, and does nothing where it has it. -/
def State.codeTo (s : State) (on : Bool) : State := if s.dcu.active = on then s else s.withCode on

theorem State.activateCode_eq : State.activateCode = fun s => s.codeTo true := rfl

theorem State.releaseCode_eq : State.releaseCode = fun s => s.codeTo false := by
  funext s
  cases active : s.dcu.active <;> simp [State.releaseCode, State.codeTo, State.withCode, active]

theorem State.codeTo_of_same {s : State} {on : Bool} (same : s.dcu.active = on) : s.codeTo on = s := if_pos same

theorem State.codeTo_of_other {s : State} {on : Bool} (other : s.dcu.active = !on) : s.codeTo on = s.withCode on :=
  if_neg (by rw [other]; exact Bool.not_ne_self on)

/-- R68: the levels of a running station whose code state has moved. -/
theorem State.withCode_helio {s : State} (run : s.running = true) (on : Bool) (i : Fin 8) :
    (s.withCode on).helios[i] = s.helios[i].reengage (s.withCode on).src true := by
  rw [State.withCode, Fin.getElem_fin, State.setSources_helio, ((State.running_iff s).1 run).2]
  rfl

/-- R130, R131: all that a move of the code state can touch. -/
def CodeFrame (s t : State) : Prop :=
  ∃ active code helios au, t =
    { s with dcu := { s.dcu with active := active }, src := { s.src with code := code }, helios := helios, au := au }

theorem CodeFrame.refl (s : State) : CodeFrame s s := ⟨_, _, _, _, rfl⟩

theorem CodeFrame.trans {s t u : State} : CodeFrame s t → CodeFrame t u → CodeFrame s u := by
  rintro ⟨_, _, _, _, rfl⟩ ⟨_, _, _, _, rfl⟩
  exact ⟨_, _, _, _, rfl⟩

theorem CodeFrame.running {s t : State} : CodeFrame s t → t.running = s.running := by
  rintro ⟨_, _, _, _, rfl⟩
  rfl

theorem State.codeTo_frame (s : State) (on : Bool) : CodeFrame s (s.codeTo on) := by
  rw [State.codeTo]
  split
  · exact .refl s
  · exact ⟨_, _, _, _, rfl⟩

theorem State.change_codeTo_frame (s : State) (on : Bool) : CodeFrame s (s.change fun s => s.codeTo on) := by
  obtain ⟨active, code, helios, _, moved⟩ := s.codeTo_frame on
  exact ⟨active, code, helios, _, (s.change_eq _).trans (by rw [moved])⟩

@[simp] theorem State.change_codeTo_active (s : State) (on : Bool) :
    (s.change fun s => s.codeTo on).dcu.active = on := by
  rw [State.change_dcu, State.codeTo]
  split
  · assumption
  · rfl

theorem State.change_codeTo_of_same {s : State} {on : Bool} (same : s.dcu.active = on) :
    (s.change fun s => s.codeTo on) = s := State.change_of_fixed (State.codeTo_of_same same)

/-- R65, R68, R197: where the code state moves, CODE follows, with every level and the latches. -/
theorem State.change_codeTo_of_other {s : State} (run : s.running = true) {on : Bool} (other : s.dcu.active = !on) :
    let t := s.change fun s => s.codeTo on
    t.src = { s.src with code := on } ∧ Recomputed s t ∧ Latched s t := by
  have moved : s.codeTo on = s.withCode on := State.codeTo_of_other other
  refine ⟨by rw [State.change_src, moved]; rfl, fun i => ?_, ?_⟩
  · rw [State.change_helios, State.change_src, moved]
    exact State.withCode_helio run on i
  · rw [State.change_withAu run ((s.codeTo_frame on).running.trans run), moved]
    rfl

/-! ## Detectors (R127, R128) -/

/-- R127: the history ends with the pattern. -/
theorem matchesPattern_iff (pattern history : List Bool) :
    matchesPattern pattern history = true ↔ pattern <:+ history := by
  rw [List.suffix_iff_eq_drop, matchesPattern, Bool.and_eq_true, decide_eq_true_iff, beq_iff_eq]
  refine ⟨fun h => h.2.symm, fun same => ⟨?_, same.symm⟩⟩
  rw [same, List.length_drop]
  omega

theorem Detector.follows_iff (d : Detector) (pattern : List Bool) (bit : Bool) :
    d.follows pattern bit = true ↔ d.locked = true ∧ pattern[d.phase]? = some bit := by
  simp [Detector.follows]

/-- R127: the phase goes round the pattern. -/
theorem phase_succ_mod {phase length : Nat} (inside : phase < length) :
    (phase + 1) % length = if phase + 1 = length then 0 else phase + 1 := by
  split
  · rename_i last
    rw [last, Nat.mod_self]
  · exact Nat.mod_eq_of_lt (by omega)

theorem Detector.receive_takesBit (d : Detector) (pattern : List Bool) (reps : Nat) (bit : Bool) :
    TakesBit pattern reps bit d (d.receive pattern (reps * pattern.length) bit) := by
  have follows_iff := d.follows_iff pattern bit
  by_cases follows : d.follows pattern bit = true
  · have goesOn := follows_iff.1 follows
    obtain ⟨inside, -⟩ := List.getElem?_eq_some_iff.1 goesOn.2
    have next : d.receive pattern (reps * pattern.length) bit =
        ⟨addHistory d.history bit, true, (d.phase + 1) % pattern.length, min (d.run + 1) (reps * pattern.length)⟩ :=
      if_pos follows
    rw [next, phase_succ_mod inside]
    exact ⟨rfl, fun _ => rfl, fun no => absurd goesOn no, fun no => absurd goesOn no⟩
  · have search : d.receive pattern (reps * pattern.length) bit = .search pattern (addHistory d.history bit) :=
      if_neg follows
    have matches_iff := matchesPattern_iff pattern (addHistory d.history bit)
    rw [search, Detector.search]
    split
    · rename_i locks
      exact ⟨rfl, fun yes => absurd (follows_iff.2 yes) follows, fun _ _ => rfl,
        fun _ no => absurd (matches_iff.1 locks) no⟩
    · rename_i searches
      exact ⟨rfl, fun yes => absurd (follows_iff.2 yes) follows, fun _ yes => absurd (matches_iff.2 yes) searches,
        fun _ _ => rfl⟩

/-- R128: a detection is the bit at which the run reaches its threshold from below. -/
theorem Detector.detects_iff_reaches (d : Detector) (pattern : List Bool) (reps : Nat) (bit : Bool) :
    d.detects pattern (reps * pattern.length) bit = true ↔
      Reaches pattern reps bit d (d.receive pattern (reps * pattern.length) bit) := by
  rw [Reaches, ← d.follows_iff pattern bit, Detector.detects]
  cases d.follows pattern bit <;> simp

/-! ## A bit received (R127 to R131, R135, R136) -/

/-- R135: a held receiver counts idle bits, and is released by the twentieth. -/
theorem Receiver.countIdle_eq (rx : Receiver) (bit : Bool) : rx.countIdle bit =
    if rx.held = false then rx else if bit = false then { rx with idle := 0 }
    else if rx.idle < 19 then { rx with idle := rx.idle + 1 } else .clear := by
  have twentieth : 20 ≤ rx.idle + 1 ↔ ¬rx.idle < 19 := by omega
  simp only [Receiver.countIdle, twentieth, ite_not]
  cases rx.held <;> cases bit <;> rfl

/-- R136: the slot-match mark after a bit. -/
theorem State.feedBit_slotMatch (s : State) (bit : Bool) : (s.feedBit bit).dcu.slotMatch = true ↔
    s.dcu.slotMatch = true ∨ s.bi.inOwnSlot = true ∧
      (s.cfg.activate.length ≤ (s.feedBit bit).dcu.act.run ∨ s.cfg.release.length ≤ (s.feedBit bit).dcu.rel.run) := by
  simp [State.feedBit, DefocusUnit.patternHeld]

/-- R196: no status condition reads a detector, the slot-match mark or the receiver. -/
@[simp] theorem State.feedBit_conditions (s : State) (bit : Bool) : (s.feedBit bit).conditions = s.conditions :=
  State.conditions_congr rfl rfl rfl rfl rfl rfl rfl rfl rfl rfl rfl

/-- R130, R131: a station that is receiving a bit after the detection of the activate pattern on it (`on` true) or of the
release pattern has been taken, if there is one. -/
def State.takeDetection (s : State) (bit on : Bool) (t : State) : State :=
  if (if on then s.activateDetected bit else s.releaseDetected bit) then t.change fun s => s.codeTo on else t

theorem State.takeDetection_frame (s : State) (bit on : Bool) (t : State) : CodeFrame t (s.takeDetection bit on t) := by
  rw [State.takeDetection]
  generalize (if on then s.activateDetected bit else s.releaseDetected bit) = detected
  cases detected with
  | true => exact t.change_codeTo_frame on
  | false => exact .refl t

section Bits

variable {s : State} {bit : Bool}

/-- R131: a bit received, with the two detections in the order that the row gives. -/
theorem State.receiveBit_eq (run : s.running = true) (quiet : s.dcu.generating = false) (first : Bool) :
    s.receiveBit first bit = s.takeDetection bit (!first) (s.takeDetection bit first (s.feedBit bit)) := by
  have listening : s.listening = true := by simp [State.listening, run, quiet]
  rw [State.receiveBit, if_pos listening, State.activateCode_eq, State.releaseCode_eq]
  cases first <;> rfl

/-- R127 to R131: beside the detectors, the mark and the receiver, a bit touches what a code state's move touches. -/
theorem State.receiveBit_frame (run : s.running = true) (quiet : s.dcu.generating = false) (first : Bool) :
    CodeFrame (s.feedBit bit) (s.receiveBit first bit) := by
  rw [State.receiveBit_eq run quiet]
  exact (s.takeDetection_frame ..).trans (s.takeDetection_frame ..)

theorem State.receiveBit_of_neither (run : s.running = true) (quiet : s.dcu.generating = false)
    (noActivate : s.activateDetected bit = false) (noRelease : s.releaseDetected bit = false) (first : Bool) :
    s.receiveBit first bit = s.feedBit bit := by
  rw [State.receiveBit_eq run quiet]
  cases first <;> simp [State.takeDetection, noActivate, noRelease]

/-- R130, R131: a bit on which one pattern is detected, the other not, in either row. -/
theorem State.receiveBit_of_one (run : s.running = true) (quiet : s.dcu.generating = false) {on : Bool}
    (activates : s.activateDetected bit = on) (releases : s.releaseDetected bit = !on) (first : Bool) :
    s.receiveBit first bit = (s.feedBit bit).change fun s => s.codeTo on := by
  rw [State.receiveBit_eq run quiet]
  cases first <;> cases on <;> simp [State.takeDetection, activates, releases]

/-- R131: a bit on which both are detected: what the row names first is followed by the other. -/
theorem State.receiveBit_of_both (run : s.running = true) (quiet : s.dcu.generating = false)
    (activates : s.activateDetected bit = true) (releases : s.releaseDetected bit = true) (first : Bool) :
    s.receiveBit first bit = ((s.feedBit bit).change fun s => s.codeTo first).change fun s => s.codeTo !first := by
  rw [State.receiveBit_eq run quiet]
  cases first <;> simp [State.takeDetection, activates, releases]

/-- R130, R131: one detection gives the code state its value; where that is new CODE follows, else only the bit counts. -/
theorem State.receiveBit_one_spec (run : s.running = true) (quiet : s.dcu.generating = false) {on : Bool}
    (activates : s.activateDetected bit = on) (releases : s.releaseDetected bit = !on) (first : Bool) :
    let t := s.receiveBit first bit
    t.dcu.active = on ∧
      (s.dcu.active = (!on) → t.src = { s.src with code := on } ∧ Recomputed s t ∧ Latched s t) ∧
      (s.dcu.active = on → t.src = s.src ∧ t.helios = s.helios ∧ t.au = s.au) := by
  rw [State.receiveBit_of_one run quiet activates releases]
  refine ⟨State.change_codeTo_active .., fun other => ?_, fun same => ?_⟩
  · obtain ⟨src, levels, latched⟩ := State.change_codeTo_of_other (s := s.feedBit bit) run other
    rw [Latched, State.feedBit_conditions] at latched
    exact ⟨src, levels, latched⟩
  · rw [State.change_codeTo_of_same (s := s.feedBit bit) same]
    exact ⟨rfl, rfl, rfl⟩

/-- R131: of two detections the one taken last stands. -/
theorem State.receiveBit_both_spec (run : s.running = true) (quiet : s.dcu.generating = false)
    (activates : s.activateDetected bit = true) (releases : s.releaseDetected bit = true) (first : Bool) :
    let t := s.receiveBit first bit
    t.dcu.active = (!first) ∧ t.src = { s.src with code := t.src.code } ∧ t.src.code = !first := by
  have frame := State.receiveBit_frame (bit := bit) run quiet first
  rw [State.receiveBit_of_both run quiet activates releases] at frame ⊢
  have run' : ((s.feedBit bit).change fun s => s.codeTo first).running = true :=
    (State.change_codeTo_frame ..).running.trans run
  obtain ⟨src, -⟩ := State.change_codeTo_of_other run' (on := !first)
    ((State.change_codeTo_active ..).trans (Bool.not_not first).symm)
  refine ⟨State.change_codeTo_active .., ?_, by rw [src]⟩
  obtain ⟨_, _, _, _, framed⟩ := frame
  rw [framed]
  rfl

end Bits

/-- Settles O50: each row feeds its bit to both detectors, and the detections of the bit move the code state in turn. -/
theorem bitsLockAndDetect : Obligations.BitsLockAndDetect := by
  intro s bit run quiet reps rx
  refine ⟨fun c row => ?_, fun noActivate noRelease => ?_, fun activates releases => ?_, fun releases activates => ?_,
    fun activates releases => ⟨?_, ?_⟩⟩
  · obtain ⟨first, taken⟩ : ∃ first, exec c s = .next (s.receiveBit first bit) := by
      rcases row with _ | ⟨_, _ | ⟨_, _ | ⟨_, ⟨⟩⟩⟩⟩
      · exact ⟨true, rfl⟩
      · exact ⟨true, rfl⟩
      · exact ⟨false, rfl⟩
    obtain ⟨_, _, _, _, frame⟩ := State.receiveBit_frame (bit := bit) run quiet first
    rw [frame] at taken
    exact ⟨_, taken, s.dcu.act.receive_takesBit .., s.dcu.rel.receive_takesBit ..,
      s.dcu.act.detects_iff_reaches .., s.dcu.rel.detects_iff_reaches .., s.feedBit_slotMatch bit,
      s.bi.rx.countIdle_eq bit, rfl, rfl⟩
  · exact ⟨s.feedBit bit, congrArg _ (State.receiveBit_of_neither run quiet noActivate noRelease true), rfl, rfl⟩
  · exact ⟨_, rfl, State.receiveBit_one_spec run quiet activates releases true⟩
  · exact ⟨_, rfl, State.receiveBit_one_spec run quiet activates releases false⟩
  · exact ⟨_, rfl, State.receiveBit_both_spec run quiet activates releases true⟩
  · exact ⟨_, rfl, State.receiveBit_both_spec run quiet activates releases false⟩

/-! ## The commands (R132, R199) -/

/-- R132: what DEFOCUS-RELEASE answers and does in the three states of the code. -/
theorem defocusReleaseEffect_eq (s : State) : stationWide 255 defocusReleaseEffect s =
    if s.dcu.generating = true then (.busy, s) else if s.dcu.active = true then (.done, s.withCode false)
    else (.state, s) := by
  have entry : stationWide 255 defocusReleaseEffect s = defocusReleaseEffect s := if_pos rfl
  rw [entry, defocusReleaseEffect, State.releaseCode_eq]
  split_ifs with generating active
  · rfl
  · exact congrArg _ (State.codeTo_of_other active)
  · rfl

/-- Settles O16: DEFOCUS-RELEASE moves the code state where it may, and each clearing command is its owner's effect. -/
theorem releaseAndClearingCommands : Obligations.ReleaseAndClearingCommands := by
  intro s run
  have taken := fun f => State.ifRunning_of_running run f
  refine ⟨fun generating => refused_row run ?_, fun quiet idle => refused_row run ?_,
    fun quiet active => ?_, ?_, ?_⟩
  · rw [defocusReleaseEffect_eq, if_pos generating]
  · rw [defocusReleaseEffect_eq, quiet, idle]
    rfl
  · have effect : stationWide 255 defocusReleaseEffect s = (.done, s.withCode false) := by
      rw [defocusReleaseEffect_eq, quiet, active]
      rfl
    obtain ⟨answered, latched, frame⟩ := s.takeCommand_taken 11 255 _ _ _ effect run run rfl rfl
    refine ⟨_, congrArg Host.Outcome.next (taken _), answered, latched, ?_⟩
    rw [State.defocusRelease, frame]
    exact ⟨rfl, rfl, State.withCode_helio run false, rfl⟩
  · let u : State := { s with au := s.au.clearPublished }
    have row : s.clearAlerts 255 = u.answer 12 255 .done := by
      have shown : u.conditions = s.conditions := rfl
      have effect : stationWide 255 clearAlertsEffect s = (.done, u) := rfl
      rw [State.clearAlerts, State.takeCommand_eq effect run run, shown, AlertUnit.latch_self]
    obtain ⟨answered, frame⟩ := u.answer_spec 12 255 .done
    exact ⟨u.answer 12 255 .done, congrArg Host.Outcome.next ((taken _).trans row), answered, frame⟩
  · have cleared (i : Fin 8) :
        (clearStickyEffect s).2.helios[i] = { s.helios[i] with limit := false, geom := false } := by
      simp only [clearStickyEffect, Fin.getElem_fin, getElem_mapEach]
    obtain ⟨answered, latched, frame⟩ := s.takeCommand_taken 13 255 (stationWide 255 clearStickyEffect) _
      (clearStickyEffect s).2 rfl run run rfl rfl
    refine ⟨_, congrArg Host.Outcome.next (taken _), answered, latched, ?_⟩
    rw [State.clearSticky, frame]
    exact ⟨cleared, rfl⟩

end Sys2Proof.Machine
end

section
/-! A contribution frame of another station at the Peer Table (R141 to R148, R167). -/

namespace Sys2Proof.Machine

/-! ## Two changes of different conditions (R196, R197) -/

/-- R197: where no condition changes twice, two changes latch what the one from the first to the last state latches. -/
theorem AlertUnit.latch_latch_of_disjoint {x y z : BitVec 16} (disjoint : (x ^^^ y) &&& (y ^^^ z) = 0) (au : AlertUnit) :
    (au.latch x y).latch y z = au.latch x z := by
  simp only [AlertUnit.latch, AlertUnit.mk.injEq, true_and]
  refine ⟨?_, ?_, ?_⟩
  all_goals
    ext k hk
    have once := congrArg (·[k]) disjoint
    revert once
    simp only [BitVec.getElem_or, BitVec.getElem_and, BitVec.getElem_xor, BitVec.getElem_not]
    cases x[k] <;> cases y[k] <;> cases z[k] <;> simp

theorem State.conditions_getLsbD (s : State) (k : Nat) : s.conditions.getLsbD k = s.conditionList.getD k false :=
  BitVec.getLsbD_ofBoolListLE

/-- Changes of two different conditions have no condition in common. -/
theorem State.conditions_disjoint {s u t : State} {i j : Nat} {a b : Bool} (differ : i ≠ j)
    (first : u.conditionList = s.conditionList.set i a) (second : t.conditionList = u.conditionList.set j b) :
    (s.conditions ^^^ u.conditions) &&& (u.conditions ^^^ t.conditions) = 0 := by
  refine BitVec.eq_of_getLsbD_eq fun k _ => ?_
  rw [BitVec.getLsbD_and, BitVec.getLsbD_xor, BitVec.getLsbD_xor]
  simp only [State.conditions_getLsbD, BitVec.ofNat_eq_ofNat, BitVec.getLsbD_zero]
  by_cases here : k = j
  · have kept : u.conditionList.getD k false = s.conditionList.getD k false := by
      rw [first, List.getD, List.getD, List.getElem?_set_ne (by omega)]
    rw [kept, Bool.xor_self, Bool.false_and]
  · have kept : t.conditionList.getD k false = u.conditionList.getD k false := by
      rw [second, List.getD, List.getD, List.getElem?_set_ne (by omega)]
    rw [kept, Bool.xor_self, Bool.and_false]

/-! ## A frame is heard (R93, R94) -/

/-- The heard station, its latches set. -/
theorem State.change_hear {s : State} (run : s.running = true) :
    s.change State.hear = s.hear.withAu (s.au.latch s.conditions s.hear.conditions) := State.change_withAu run run

/-- R93, R94, R196: of the conditions a frame that is heard ends BUS-LOST, bit 0. -/
theorem State.hear_conditionList (s : State) : s.hear.conditionList = s.conditionList.set 0 false := rfl

/-! ## The lookup (R143 to R148) -/

section Lookup
variable {s : State} {station : Nat} {items : List PlanItem} {w : Bool}

/-- R144: a hit with a filtered list rewrites the way. -/
theorem State.lookUpPeer_of_hit (hit : s.pt.sets[peerSetOf station].hit station = some w) (filled : items ≠ []) :
    s.lookUpPeer station items =
      s.setPeerSet (peerSetOf station) (written s.pt.sets[peerSetOf station] w station items) := by
  simp only [State.lookUpPeer, hit, List.isEmpty_iff, if_neg filled, PeerSet.write_eq]

/-- R145: a hit without one invalidates it. -/
theorem State.lookUpPeer_of_hit_empty (hit : s.pt.sets[peerSetOf station].hit station = some w) (empty : items = []) :
    s.lookUpPeer station items =
      s.setPeerSet (peerSetOf station) { s.pt.sets[peerSetOf station].setWay w none with lru := w } := by
  simp only [State.lookUpPeer, hit, List.isEmpty_iff, if_pos empty, PeerSet.invalidate]

/-- R146: a miss without a filtered list is passed by. -/
theorem State.lookUpPeer_of_miss_empty (miss : s.pt.sets[peerSetOf station].hit station = none) (empty : items = []) :
    s.lookUpPeer station items = s := by
  simp only [State.lookUpPeer, miss, List.isEmpty_iff, if_pos empty]

/-- R147, R148: a miss with one evicts what the victim holds and fills it. -/
theorem State.lookUpPeer_of_miss (miss : s.pt.sets[peerSetOf station].hit station = none) (filled : items ≠ []) :
    s.lookUpPeer station items =
      (s.evict (s.pt.sets[peerSetOf station].way s.pt.sets[peerSetOf station].victim)).setPeerSet (peerSetOf station)
        (written s.pt.sets[peerSetOf station] s.pt.sets[peerSetOf station].victim station items) := by
  simp only [State.lookUpPeer, miss, List.isEmpty_iff, if_neg filled, PeerSet.write_eq]

end Lookup

/-- R143 to R148: a lookup changes the Peer Table and ZONE-SAT and nothing else. -/
theorem State.lookUpPeer_frame (s : State) (station : Nat) (items : List PlanItem) : s.lookUpPeer station items =
    { s with
      pt := (s.lookUpPeer station items).pt
      fa := { s.fa with zoneSat := (s.lookUpPeer station items).fa.zoneSat } } := by
  obtain ⟨w, -, -, e⟩ | ⟨w, -, -, e⟩ | ⟨-, -, e⟩ | ⟨-, -, e⟩ := s.lookUpPeer_cases station items <;> rw [e]
  · rfl
  · rfl
  · rw [State.evict_frame]
    rfl

/-- R167, R196: of the conditions a lookup reaches ZONE-SAT, bit 10. -/
theorem State.lookUpPeer_conditionList (s : State) (station : Nat) (items : List PlanItem) :
    (s.lookUpPeer station items).conditionList =
      s.conditionList.set 10 (s.lookUpPeer station items).fa.zoneSat := by
  rw [State.lookUpPeer_frame]
  rfl

/-- R148: each planned value above 0 joins the residue of its zone. -/
theorem State.evict_residue (s : State) (e : PeerEntry) : (s.evict (some e)).pt.residue = s.pt.residue.map fun r =>
    if plannedFor e.items r.zone = 0 then r
    else { r with
      value := min (r.value + plannedFor e.items r.zone) 65535
      expiry := s.bi.epoch + BitVec.ofNat 32 s.cfg.peerAgeMax } := rfl

/-- R148, R167: ZONE-SAT stands, or is set where a sum saturates. -/
theorem State.evict_zoneSat (s : State) (e : PeerEntry) : (s.evict (some e)).fa.zoneSat = true ↔ s.fa.zoneSat = true ∨
    ∃ r ∈ s.pt.residue, plannedFor e.items r.zone ≠ 0 ∧ 65535 < r.value + plannedFor e.items r.zone := by
  simp only [State.evict, Residue.saturates, Bool.or_eq_true, List.any_eq_true, Bool.and_eq_true, bne_iff_ne,
    decide_eq_true_eq]
  rfl

/-! ## The frame (R92, R141) -/

/-- R92, R141: the row of a valid frame of another station is two changes: it is heard, and its filtered list looked up. -/
theorem exec_contributionFrame {s : State} {sender : Nat} {state : Byte} {items : List FrameItem}
    (accepted : s.accepts sender = true) (low : 8 ≤ sender) (high : sender ≤ 399) (other : sender ≠ s.sc.number)
    (count : items.length ≤ 8) : exec (.contributionFrame sender state items) s =
      .next ((s.change State.hear).change fun u => u.lookUpPeer sender (filteredList s.interest state items)) := by
  have fields : FrameBody.fails sender (.contribution state items) = none := by
    simp only [FrameBody.fails]
    rw [if_neg (by omega), if_neg (by omega), if_pos count]
  have interest : (s.change State.hear).interest = s.interest := State.change_interest ..
  refine congrArg Host.Outcome.next ((State.receiveBody_taken accepted fields).trans ((if_neg other).trans ?_))
  exact State.change_congr (by rw [State.takeContribution, interest])

/-- R197: hearing a frame and looking it up latch as one change, for they reach BUS-LOST and ZONE-SAT. -/
theorem State.latched_hear_lookUpPeer {s : State} (run : s.running = true) (station : Nat) (items : List PlanItem) :
    Latched s ((s.change State.hear).change fun u => u.lookUpPeer station items) := by
  rw [State.change_hear run]
  generalize heard_eq : s.hear.withAu (s.au.latch s.conditions s.hear.conditions) = heard
  have heardRun : heard.running = true := heard_eq ▸ run
  have heardList : heard.conditionList = s.conditionList.set 0 false := by
    rw [← heard_eq]
    exact s.hear_conditionList
  have lookedUpRun : (heard.lookUpPeer station items).running = true := by
    rw [State.lookUpPeer_frame]
    exact heardRun
  have au : (heard.lookUpPeer station items).au = s.au.latch s.conditions heard.conditions := by
    rw [State.lookUpPeer_frame, ← heard_eq]
    rfl
  have disjoint := State.conditions_disjoint (by decide) heardList (heard.lookUpPeer_conditionList station items)
  rw [Latched, State.change_withAu heardRun lookedUpRun, State.withAu_au, State.withAu_conditions, au,
    AlertUnit.latch_latch_of_disjoint disjoint]

/-- Settles O23: the frame is heard and its filtered list looked up; the clauses are the four outcomes of the lookup. -/
theorem contributionFrameIsLookedUp : Obligations.ContributionFrameIsLookedUp := by
  intro s sender state items accepted low high other count kept i st
  have run := State.running_of_accepts accepted
  have row := exec_contributionFrame (state := state) accepted low high other count
  have latched := State.latched_hear_lookUpPeer run sender kept
  rw [State.change_hear run] at row latched
  generalize s.au.latch s.conditions s.hear.conditions = au at row latched
  refine ⟨_, row, ?_, latched, ?_⟩
  all_goals simp only [State.change_bi, State.change_pt, State.change_fa]
  · rw [State.lookUpPeer_frame]
    rfl
  refine ⟨fun w hit filled => ?_, fun w hit empty => ?_, fun miss empty => ?_, fun miss filled => ⟨st.victim, ?_⟩, ?_⟩
  · rw [State.lookUpPeer_of_hit (s := s.hear.withAu au) hit filled]
    exact ⟨rfl, rfl⟩
  · rw [State.lookUpPeer_of_hit_empty (s := s.hear.withAu au) hit empty]
    exact ⟨rfl, rfl⟩
  · rw [State.lookUpPeer_of_miss_empty (s := s.hear.withAu au) miss empty]
    exact ⟨rfl, rfl⟩
  · obtain ⟨first, second, lru⟩ := st.victim_spec
    have looked : (s.hear.withAu au).lookUpPeer sender kept =
        ((s.hear.withAu au).evict (st.way st.victim)).setPeerSet i (written st st.victim sender kept) :=
      State.lookUpPeer_of_miss (s := s.hear.withAu au) miss filled
    rw [looked]
    refine ⟨?_, first, second, lru, fun invalid => ?_, fun e valid => ?_⟩
    · rw [State.evict_frame]
      rfl
    · rw [invalid]
      exact ⟨rfl, rfl⟩
    · rw [valid]
      exact ⟨State.evict_zoneSat _ e, State.evict_residue _ e⟩
  · rw [State.change_eq, State.lookUpPeer_frame]
    rfl

end Sys2Proof.Machine
end

section
/-! Irradiance windows (R157 to R161). -/

namespace Sys2Proof.Machine

/-- R157: a window that does not run, or whose timer has not come round, does not end. -/
theorem execWindowEnd_of_not_over {s : State} (run : s.running = true) (not_over : s.irm.windowOver = false) :
    exec .windowEnd s = .next s := by
  have same : s.irm.endWindow s.cfg = s.irm := by simp [IrradianceMonitor.endWindow, not_over]
  refine congrArg _ ((State.ifRunning_of_running run _).trans (State.change_of_fixed ?_))
  rw [same]

/-- Settles O51: the pulse by `IrradianceMonitor.pulse`, the window's end by `IrradianceMonitor.endWindow`. -/
theorem windowsMeasure : Obligations.WindowsMeasure := by
  intro s run
  refine ⟨fun stopped => ⟨?_, ?_⟩, fun early => ?_, fun runs => ?_, ?_⟩
  · have same : s.irm.pulse = s.irm := by simp [IrradianceMonitor.pulse, stopped]
    refine congrArg _ ((State.ifRunning_of_running run _).trans ?_)
    rw [same]
  · exact execWindowEnd_of_not_over run (by simp [IrradianceMonitor.windowOver, stopped])
  · refine execWindowEnd_of_not_over run ?_
    rw [IrradianceMonitor.windowOver, Bool.and_eq_false_iff]
    exact .inr (decide_eq_false (by omega))
  · have counted : s.irm.pulse = { s.irm with pulses := min (s.irm.pulses + 1) 65535 } := if_pos runs
    refine congrArg _ ((State.ifRunning_of_running run _).trans ?_)
    rw [counted]
  · intro runs around m h
    have due : s.irm.windowOver = true := by simp [IrradianceMonitor.windowOver, runs, around]
    have ended : s.irm.endWindow s.cfg = { s.irm with
        timer := 0, pulses := 0, m := m, h := h, clouded := decide (m * 256 < h * s.cfg.cloudRatio) } := if_pos due
    have row : exec .windowEnd s = .next (s.change fun s => { s with irm := s.irm.endWindow s.cfg }) :=
      congrArg _ (State.ifRunning_of_running run _)
    refine ⟨_, row, ?_, ?_⟩
    · rw [Latched, State.change_au s _ run run, State.change_eq]
      rfl
    · rw [State.change_eq, ended]

end Sys2Proof.Machine
end

section
/-! The two passes of an allocation (R168 to R172): the order in which the heliostats are taken, and what each pass has kept,
placed and spent after a part of them. -/

namespace Sys2Proof.Machine

/-! ## The P of a kind of heliostats -/

/-- The sum of the P of those of a list that are of a kind. -/
def State.sumOver (s : State) (l : List (Fin 8)) (c : Fin 8 → Bool) : Nat := ((l.filter c).map fun j => s.helios[j].p).sum

theorem sumOfP_eq (s : State) (c : Fin 8 → Bool) : sumOfP s c = s.sumOver (List.finRange 8) c := rfl

theorem State.sumOver_concat (s : State) (l : List (Fin 8)) (i : Fin 8) (c : Fin 8 → Bool) :
    s.sumOver (l ++ [i]) c = s.sumOver l c + if c i then s.helios[i].p else 0 := by
  cases h : c i <;> simp [State.sumOver, List.filter_append, h]

theorem State.sumOver_congr (s : State) {l : List (Fin 8)} {c d : Fin 8 → Bool} (h : ∀ j ∈ l, c j = d j) :
    s.sumOver l c = s.sumOver l d := by
  rw [State.sumOver, State.sumOver, List.filter_congr h]

theorem State.sumOver_perm (s : State) {l m : List (Fin 8)} (h : l.Perm m) (c : Fin 8 → Bool) :
    s.sumOver l c = s.sumOver m c :=
  ((h.filter c).map _).sum_eq

theorem State.sumOver_filter (s : State) (l : List (Fin 8)) (a c : Fin 8 → Bool) :
    s.sumOver (l.filter a) c = s.sumOver l fun j => a j && c j := by
  rw [State.sumOver, State.sumOver, List.filter_filter]
  simp only [Bool.and_comm]

theorem State.sumOver_eq_zero (s : State) {l : List (Fin 8)} {c : Fin 8 → Bool} (h : ∀ j ∈ l, c j = false) :
    s.sumOver l c = 0 := by
  rw [s.sumOver_congr h]
  simp [State.sumOver]

/-! ## The order of R168 -/

theorem ranksBefore_iff (v : Vector Helio 8) (i j : Fin 8) :
    ranksBefore v i j = true ↔ v[j].p < v[i].p ∨ v[i].p = v[j].p ∧ i < j := by
  simp [ranksBefore]

theorem ranksBefore_asymm {v : Vector Helio 8} {i j : Fin 8} (h : ranksBefore v i j = true) : ranksBefore v j i = false := by
  rw [Bool.eq_false_iff]
  rw [ranksBefore_iff] at h
  rw [Ne, ranksBefore_iff]
  omega

theorem ranksBefore_trans {v : Vector Helio 8} {i j k : Fin 8} (h : ranksBefore v i j = true) (h' : ranksBefore v j k = true) :
    ranksBefore v i k = true := by
  rw [ranksBefore_iff] at *
  omega

theorem ranksBefore_of_not {v : Vector Helio 8} {i j : Fin 8} (n : ¬ranksBefore v i j = true) (ne : i ≠ j) :
    ranksBefore v j i = true := by
  rw [ranksBefore_iff] at *
  omega

theorem insertRanked_perm (v : Vector Helio 8) (i : Fin 8) (l : List (Fin 8)) : (insertRanked v i l).Perm (i :: l) := by
  induction l with
  | nil => exact .refl _
  | cons j rest ih =>
    rw [insertRanked]
    split
    · exact .refl _
    · exact (ih.cons j).trans (.swap i j rest)

theorem insertRanked_ranked {v : Vector Helio 8} {i : Fin 8} {l : List (Fin 8)} (fresh : i ∉ l)
    (ranked : l.Pairwise fun a b => ranksBefore v a b = true) :
    (insertRanked v i l).Pairwise fun a b => ranksBefore v a b = true := by
  induction l with
  | nil => exact List.pairwise_singleton _ _
  | cons j rest ih =>
    obtain ⟨first, ranked⟩ := List.pairwise_cons.1 ranked
    obtain ⟨ne, fresh⟩ := not_or.1 (mt List.mem_cons.2 fresh)
    rw [insertRanked]
    split
    · rename_i before
      refine List.pairwise_cons.2 ⟨fun k hk => ?_, List.pairwise_cons.2 ⟨first, ranked⟩⟩
      obtain rfl | hk := List.mem_cons.1 hk
      · exact before
      · exact ranksBefore_trans before (first k hk)
    · rename_i n
      refine List.pairwise_cons.2 ⟨fun k hk => ?_, ih fresh ranked⟩
      obtain rfl | hk := List.mem_cons.1 ((insertRanked_perm v i rest).mem_iff.1 hk)
      · exact ranksBefore_of_not n ne
      · exact first k hk

/-- Insertion of one heliostat after another ranks them. -/
theorem foldr_insertRanked (v : Vector Helio 8) {l : List (Fin 8)} (d : l.Nodup) :
    (l.foldr (insertRanked v) []).Perm l ∧
      (l.foldr (insertRanked v) []).Pairwise fun a b => ranksBefore v a b = true := by
  induction l with
  | nil => exact ⟨.refl _, .nil⟩
  | cons i rest ih =>
    obtain ⟨fresh, d⟩ := List.nodup_cons.1 d
    obtain ⟨perm, ranked⟩ := ih d
    exact ⟨(insertRanked_perm ..).trans (perm.cons i), insertRanked_ranked (mt perm.mem_iff.1 fresh) ranked⟩

theorem rankedEligible_perm (v : Vector Helio 8) :
    (rankedEligible v).Perm ((List.finRange 8).filter fun i => v[i].eligible) :=
  (foldr_insertRanked v ((List.nodup_finRange 8).filter _)).1

theorem rankedEligible_nodup (v : Vector Helio 8) : (rankedEligible v).Nodup :=
  (rankedEligible_perm v).nodup_iff.2 ((List.nodup_finRange 8).filter _)

theorem mem_rankedEligible {v : Vector Helio 8} {i : Fin 8} : i ∈ rankedEligible v ↔ v[i].eligible = true := by
  simp [(rankedEligible_perm v).mem_iff]

/-- R168: those taken before a heliostat are those that stand before it in the order. -/
theorem sumOver_before (s : State) {before after : List (Fin 8)} {i : Fin 8}
    (order : rankedEligible s.helios = before ++ i :: after) (c : Fin 8 → Bool) :
    s.sumOver before c = sumOfP s fun j => takenBefore s i j && c j := by
  have ranked := (foldr_insertRanked s.helios ((List.nodup_finRange 8).filter fun i => s.helios[i].eligible)).2
  have nodup := rankedEligible_nodup s.helios
  rw [show List.foldr _ _ _ = rankedEligible s.helios from rfl, order, List.pairwise_append] at ranked
  obtain ⟨-, later, earlier⟩ := ranked
  rw [order] at nodup
  have perm : before.Perm ((List.finRange 8).filter (takenBefore s i)) := by
    refine (List.perm_ext_iff_of_nodup nodup.of_append_left ((List.nodup_finRange 8).filter _)).2 fun j => ?_
    have taken : takenBefore s i j = true ↔ s.helios[j].eligible = true ∧ ranksBefore s.helios j i = true := by
      rw [← Bool.and_eq_true]
      rfl
    rw [List.mem_filter, taken, ← mem_rankedEligible, order]
    refine ⟨fun hj => ⟨List.mem_finRange j, List.mem_append_left _ hj, earlier j hj i List.mem_cons_self⟩, ?_⟩
    rintro ⟨-, hj, first⟩
    obtain hj | hj := List.mem_append.1 hj
    · exact hj
    · obtain rfl | hj := List.mem_cons.1 hj
      · exact absurd (first.symm.trans (ranksBefore_asymm first)) nofun
      · have second := (List.pairwise_cons.1 later).1 j hj
        exact absurd (first.symm.trans (ranksBefore_asymm second)) nofun
  rw [s.sumOver_perm perm, s.sumOver_filter]
  rfl

/-- Of the eligible heliostats alone, a sum over the order is a sum over all. -/
theorem sumOver_order (s : State) {c : Fin 8 → Bool} (h : ∀ j, c j = true → s.helios[j].eligible = true) :
    s.sumOver (rankedEligible s.helios) c = sumOfP s c := by
  rw [s.sumOver_perm (rankedEligible_perm s.helios), s.sumOver_filter, sumOfP_eq]
  refine s.sumOver_congr fun j _ => ?_
  cases e : c j
  · exact Bool.and_false _
  · rw [h j e]
    rfl

end Sys2Proof.Machine
end

section
/-! The keep pass (R168, R169): after a part of the order, what is kept and what is left of each budget. -/

namespace Sys2Proof.Machine

theorem zoneOfField_eq_some {cfg : StationConfig} {a : Option Nat} {z : Nat} :
    zoneOfField cfg a = some z ↔ ∃ ap, a = some ap ∧ cfg.zoneOf ap = some z := by
  cases a <;> simp [zoneOfField]

/-- A heliostat of a bank is assigned to a zone. -/
def keptIn (cfg : StationConfig) (v : Vector Helio 8) (z : Nat) (j : Fin 8) : Bool :=
  zoneOfField cfg v[j].assignment == some z

theorem keptIn_iff {cfg : StationConfig} {v : Vector Helio 8} {z : Nat} {j : Fin 8} :
    keptIn cfg v z j = true ↔ zoneOfField cfg v[j].assignment = some z := by
  simp [keptIn]

theorem keptIn_congr {cfg : StationConfig} {v w : Vector Helio 8} {j : Fin 8} (h : w[j].assignment = v[j].assignment) (z : Nat) :
    keptIn cfg w z j = keptIn cfg v z j := by
  rw [keptIn, keptIn, h]

/-- R162: a heliostat with its deferred placement emptied (placement P to 0: log entry 49). -/
def Helio.emptied (h : Helio) : Helio := { h with deferred := none, placementP := 0 }

theorem readyForPasses_of_eligible {v : Vector Helio 8} {i : Fin 8} (e : v[i].eligible = true) :
    (readyForPasses v)[i] = v[i].emptied := by
  have e' : v[i.val].eligible = true := e
  simp [readyForPasses, Helio.emptied, e']

theorem readyForPasses_of_ineligible {v : Vector Helio 8} {i : Fin 8} (e : v[i].eligible = false) :
    (readyForPasses v)[i] = { v[i] with assignment := none, deferred := none, placementP := 0 } := by
  have e' : v[i.val].eligible = false := e
  simp [readyForPasses, e']

/-! ## One heliostat of the keep pass -/

theorem keepOne_other (cfg : StationConfig) (ps : PassState) {i j : Fin 8} (ne : j ≠ i) :
    (keepOne cfg ps i).helios[j] = ps.helios[j] := by
  obtain ⟨b, -, e⟩ | ⟨-, e⟩ := keepOne_cases cfg ps i <;> rw [e, set_helio_other _ _ _ _ ne]

theorem keepOne_wanted (cfg : StationConfig) (ps : PassState) (i : Fin 8) : (keepOne cfg ps i).wanted = ps.wanted := by
  obtain ⟨b, -, e⟩ | ⟨-, e⟩ := keepOne_cases cfg ps i <;> rw [e]

/-- R169: an assigned heliostat within both budgets of its zone is kept in it. -/
theorem keepBudget_of_fits {cfg : StationConfig} {bs : List ZoneBudget} {h : Helio} {z : Nat} {b : ZoneBudget}
    (zone : zoneOfField cfg h.assignment = some z) (budget : budgetFor bs z = some b) (remaining : h.p ≤ b.remaining)
    (room : h.p ≤ b.keepRoom) : keepBudget cfg bs h = some b := by
  obtain ⟨ap, assigned, zone⟩ := zoneOfField_eq_some.1 zone
  simp [keepBudget, assigned, zone, budget, remaining, room]

/-- R169: a heliostat is assigned to an interest zone that holds its P beside what is kept there. -/
def State.Keeps (s : State) (i : Fin 8) (kept : Nat → Nat) : Prop :=
  ∃ z ∈ s.interest, zoneOfField s.cfg s.helios[i].assignment = some z ∧
    kept z + s.helios[i].p ≤ min (s.allowance z) (s.published z)

/-- The budget of a list with one budget made for each zone of a set. -/
theorem budgetFor_zones (zones : List Nat) (f : Nat → ZoneBudget) (h : ∀ z, (f z).zone = z) (z : Nat) :
    budgetFor (zones.map f) z = if z ∈ zones then some (f z) else none := by
  induction zones with
  | nil => rfl
  | cons y rest ih =>
    by_cases e : y = z
    · subst e
      simp [budgetFor, h]
    · have n : z ≠ y := fun q => e q.symm
      simpa [budgetFor, h, e, n] using ih

/-! ## The keep pass as far as a part of the order -/

/-- R168, R169: the keep pass over a list of heliostats. -/
def State.keepPass (s : State) (l : List (Fin 8)) : PassState :=
  l.foldl (keepOne s.cfg) { helios := readyForPasses s.helios, budgets := s.startBudgets, wanted := [] }

theorem State.keepPass_concat (s : State) (l : List (Fin 8)) (i : Fin 8) :
    s.keepPass (l ++ [i]) = keepOne s.cfg (s.keepPass l) i := by
  simp [State.keepPass]

/-- The P kept in a zone by the keep pass over a list. -/
def State.keptSum (s : State) (l : List (Fin 8)) (z : Nat) : Nat := s.sumOver l (keptIn s.cfg (s.keepPass l).helios z)

/-- What the keep pass over a list of eligible heliostats has done: of the others nothing, and of the budgets it has spent what
it has kept, which is within the allowance and the published value. -/
structure State.KeepState (s : State) (l : List (Fin 8)) : Prop where
  rest : ∀ j, j ∉ l → (s.keepPass l).helios[j] = (readyForPasses s.helios)[j]
  budgets : ∀ z, budgetFor (s.keepPass l).budgets z = if z ∈ s.interest then
    some ⟨z, s.allowance z - s.keptSum l z, min (s.allowance z) (s.published z) - s.keptSum l z⟩ else none
  fits : ∀ z, s.keptSum l z ≤ if z ∈ s.interest then min (s.allowance z) (s.published z) else 0

namespace State.KeepState

variable {s : State} {l : List (Fin 8)} {i : Fin 8}

theorem nil (s : State) : s.KeepState [] where
  rest _ _ := rfl
  budgets z := by
    have none : s.keptSum [] z = 0 := rfl
    rw [none, Nat.sub_zero, Nat.sub_zero]
    exact budgetFor_zones _ _ (fun _ => rfl) z
  fits z := Nat.zero_le _

/-- R169: the heliostat that comes next is kept or not. -/
theorem next (k : s.KeepState l) (fresh : i ∉ l) (e : s.helios[i].eligible = true) :
    (∃ z ∈ s.interest, zoneOfField s.cfg s.helios[i].assignment = some z ∧
      s.keptSum l z + s.helios[i].p ≤ min (s.allowance z) (s.published z) ∧
      s.keepPass (l ++ [i]) = { s.keepPass l with
        helios := (s.keepPass l).helios.set i { s.helios[i].emptied with countedP := s.helios[i].p }
        budgets := spend (s.keepPass l).budgets z s.helios[i].p true }) ∨
    (¬s.Keeps i (s.keptSum l) ∧ s.keepPass (l ++ [i]) = { s.keepPass l with
      helios := (s.keepPass l).helios.set i { s.helios[i].emptied with assignment := none } }) := by
  have found : (s.keepPass l).helios[i] = s.helios[i].emptied := (k.rest i fresh).trans (readyForPasses_of_eligible e)
  have one := keepOne_cases s.cfg (s.keepPass l) i
  rw [← s.keepPass_concat, found] at one
  obtain ⟨b, kept, whole⟩ | ⟨none, whole⟩ := one
  · obtain ⟨ap, assigned, zone, budget, remaining, room⟩ := keepBudget_some kept
    have known := k.budgets b.zone
    rw [budget] at known
    split at known
    · rename_i interest
      have fits := k.fits b.zone
      rw [if_pos interest] at fits
      refine .inl ⟨b.zone, interest, zoneOfField_eq_some.2 ⟨ap, assigned, zone⟩, ?_, whole⟩
      rw [Option.some.inj known] at room
      have room : s.helios[i].p ≤ min (s.allowance b.zone) (s.published b.zone) - s.keptSum l b.zone := room
      omega
    · cases known
  · refine .inr ⟨?_, whole⟩
    rintro ⟨z, interest, zone, fits⟩
    have budget := k.budgets z
    rw [if_pos interest] at budget
    have kept := keepBudget_of_fits (h := s.helios[i].emptied) zone budget
      (show s.helios[i].p ≤ s.allowance z - s.keptSum l z by omega)
      (show s.helios[i].p ≤ min (s.allowance z) (s.published z) - s.keptSum l z by omega)
    rw [none] at kept
    cases kept

/-- What is kept in a zone with one heliostat more. -/
theorem keptSum_concat (s : State) (fresh : i ∉ l) (z : Nat) : s.keptSum (l ++ [i]) z =
    s.keptSum l z + if keptIn s.cfg (s.keepPass (l ++ [i])).helios z i then s.helios[i].p else 0 := by
  rw [State.keptSum, s.sumOver_concat]
  refine congrArg (· + _) (s.sumOver_congr fun j hj => keptIn_congr ?_ z)
  rw [s.keepPass_concat, keepOne_other _ _ (ne_of_mem_of_not_mem hj fresh)]

theorem concat (k : s.KeepState l) (fresh : i ∉ l) (e : s.helios[i].eligible = true) : s.KeepState (l ++ [i]) := by
  have sums := keptSum_concat s fresh
  have rest : ∀ j, j ∉ l ++ [i] → (s.keepPass (l ++ [i])).helios[j] = (readyForPasses s.helios)[j] := fun j hj => by
    rw [List.mem_append, List.mem_singleton, not_or] at hj
    rw [s.keepPass_concat, keepOne_other _ _ hj.2, k.rest j hj.1]
  obtain ⟨y, interest, zone, within, whole⟩ | ⟨-, whole⟩ := k.next fresh e
  · have kept : ∀ z, keptIn s.cfg (s.keepPass (l ++ [i])).helios z i = decide (y = z) := fun z => by
      rw [whole, keptIn, set_helio_self]
      show (zoneOfField s.cfg s.helios[i].assignment == some z) = _
      rw [zone]
      rfl
    refine ⟨rest, fun z => ?_, fun z => ?_⟩
    · rw [sums, kept, whole]
      show budgetFor (spend (s.keepPass l).budgets y s.helios[i].p true) z = _
      rw [budgetFor_spend, k.budgets]
      by_cases mem : z ∈ s.interest <;> by_cases here : y = z <;> simp [mem, here, eq_comm (a := z), Nat.sub_sub]
    · rw [sums, kept]
      by_cases here : y = z
      · subst here
        simpa [interest] using within
      · simpa [here] using k.fits z
  · have kept : ∀ z, keptIn s.cfg (s.keepPass (l ++ [i])).helios z i = false := fun z => by
      rw [whole, keptIn, set_helio_self]
      rfl
    have same : s.keptSum (l ++ [i]) = s.keptSum l := funext fun z => by simp [sums, kept]
    refine ⟨rest, ?_, ?_⟩
    · rw [same, whole]
      exact k.budgets
    · rw [same]
      exact k.fits

end State.KeepState

theorem State.keepState (s : State) {l : List (Fin 8)} (d : l.Nodup) (e : ∀ i ∈ l, s.helios[i].eligible = true) :
    s.KeepState l := by
  induction l using List.reverseRecOn with
  | nil => exact .nil s
  | append_singleton l i ih =>
    obtain ⟨d, -, apart⟩ := List.nodup_append.1 d
    have fresh : i ∉ l := fun hi => apart i hi i (List.mem_singleton_self i) rfl
    exact (ih d fun j hj => e j (List.mem_append_left _ hj)).concat fresh (e i (by simp))

/-! ## The keep pass over the whole order -/

/-- A heliostat stands as the keep pass left it once it has been taken. -/
theorem State.keepPass_settled (s : State) (l : List (Fin 8)) {m : List (Fin 8)} {j : Fin 8} (later : j ∉ m) :
    (s.keepPass (l ++ m)).helios[j] = (s.keepPass l).helios[j] := by
  rw [State.keepPass, List.foldl_append]
  exact List.foldlRecOn (motive := fun ps : PassState => ps.helios[j] = (s.keepPass l).helios[j]) m _ rfl
    fun ps same i hi => (keepOne_other _ _ (ne_of_mem_of_not_mem hi later).symm).trans same

/-- R168, R169: the keep pass over the whole order. -/
def State.kept (s : State) : PassState := s.keepPass (rankedEligible s.helios)

theorem State.keepState_order (s : State) : s.KeepState (rankedEligible s.helios) :=
  s.keepState (rankedEligible_nodup _) fun _ => mem_rankedEligible.1

/-- R168, R169: an eligible heliostat is kept, with its P counted, or stands unassigned. -/
theorem State.kept_of_eligible {s : State} {i : Fin 8} (e : s.helios[i].eligible = true) :
    let before := fun z => sumOfP s fun j => takenBefore s i j && keptIn s.cfg s.kept.helios z j
    (s.Keeps i before ∧ s.kept.helios[i] = { s.helios[i].emptied with countedP := s.helios[i].p }) ∨
      (¬s.Keeps i before ∧ s.kept.helios[i] = { s.helios[i].emptied with assignment := none }) := by
  intro taken
  obtain ⟨before, after, order⟩ := List.append_of_mem (mem_rankedEligible.2 e)
  have nodup := rankedEligible_nodup s.helios
  rw [order] at nodup
  obtain ⟨first, second, apart⟩ := List.nodup_append.1 nodup
  have fresh : i ∉ before := fun hi => apart i hi i List.mem_cons_self rfl
  have state : s.KeepState before := s.keepState first fun j hj => mem_rankedEligible.1 (order ▸ List.mem_append_left _ hj)
  have sums : s.keptSum before = taken := funext fun z => by
    refine Eq.trans ?_ (sumOver_before s order _)
    refine s.sumOver_congr fun j hj => (keptIn_congr ?_ z).symm
    rw [State.kept, order, s.keepPass_settled before fun hj' => apart j hj j hj' rfl]
  have here : s.kept.helios[i] = (s.keepPass (before ++ [i])).helios[i] := by
    rw [State.kept, order, List.append_cons, s.keepPass_settled _ (List.nodup_cons.1 second).1]
  rw [here, ← sums]
  obtain ⟨z, interest, zone, within, whole⟩ | ⟨none, whole⟩ := state.next fresh e
  · exact .inl ⟨⟨z, interest, zone, within⟩, by rw [whole, set_helio_self]⟩
  · exact .inr ⟨none, by rw [whole, set_helio_self]⟩

theorem State.kept_of_ineligible {s : State} {i : Fin 8} (e : s.helios[i].eligible = false) :
    s.kept.helios[i] = { s.helios[i] with assignment := none, deferred := none, placementP := 0 } := by
  rw [← readyForPasses_of_ineligible e]
  exact s.keepState_order.rest i fun hi => absurd ((mem_rankedEligible.1 hi).symm.trans e) nofun

/-- R162, R168: the keep pass leaves no deferred placement. -/
theorem State.kept_deferred (s : State) (i : Fin 8) : s.kept.helios[i].deferred = none := by
  cases e : s.helios[i].eligible
  · rw [State.kept_of_ineligible e]
  · obtain ⟨-, h⟩ | ⟨-, h⟩ := State.kept_of_eligible e <;> rw [h] <;> rfl

theorem State.eligible_of_keptIn {s : State} {z : Nat} {j : Fin 8} (h : keptIn s.cfg s.kept.helios z j = true) :
    s.helios[j].eligible = true := by
  by_contra n
  rw [keptIn, State.kept_of_ineligible (Bool.eq_false_iff.2 n)] at h
  cases h

/-- The P kept in a zone. -/
theorem State.keptSum_order (s : State) (z : Nat) :
    s.keptSum (rankedEligible s.helios) z = sumOfP s (keptIn s.cfg s.kept.helios z) :=
  sumOver_order s fun _ => State.eligible_of_keptIn

end Sys2Proof.Machine
end

section
/-! The place pass (R170): after a part of the order, what is placed, what is left of each allowance, and which zones are
wanted. -/

namespace Sys2Proof.Machine

/-- A heliostat of a bank has a deferred placement on a zone. -/
def placedIn (cfg : StationConfig) (v : Vector Helio 8) (z : Nat) (j : Fin 8) : Bool :=
  zoneOfField cfg v[j].deferred == some z

theorem placedIn_iff {cfg : StationConfig} {v : Vector Helio 8} {z : Nat} {j : Fin 8} :
    placedIn cfg v z j = true ↔ zoneOfField cfg v[j].deferred = some z := by
  simp [placedIn]

theorem placedIn_congr {cfg : StationConfig} {v w : Vector Helio 8} {j : Fin 8} (h : w[j].deferred = v[j].deferred) (z : Nat) :
    placedIn cfg w z j = placedIn cfg v z j := by
  rw [placedIn, placedIn, h]

theorem mem_firstZone {cfg : StationConfig} {h : Helio} {z : Nat} :
    z ∈ firstZone cfg h ↔ zoneOfField cfg h.cfg.candidates.head? = some z := by
  rw [firstZone]
  cases h.cfg.candidates.head? <;> simp [zoneOfField]

/-! ## One heliostat of the place pass -/

/-- R170: a heliostat deferred to a candidate. -/
def Helio.deferTo (h : Helio) (ap : Nat) : Helio := { h with deferred := some ap, placementP := h.p }

/-- R170: the place pass leaves a kept heliostat alone, places one on a candidate that has room, or notes a wanted zone. -/
theorem placeOne_cases (cfg : StationConfig) (ps : PassState) (i : Fin 8) :
    let h := ps.helios[i]
    let found := h.cfg.candidates.find? (placeable cfg ps.budgets h.p)
    (h.assignment.isSome = true ∧ placeOne cfg ps i = ps) ∨
    (h.assignment = none ∧ ∃ ap z, found = some ap ∧ cfg.zoneOf ap = some z ∧ placeOne cfg ps i =
      { ps with helios := ps.helios.set i (h.deferTo ap), budgets := spend ps.budgets z h.p false }) ∨
    (h.assignment = none ∧ found = none ∧
      placeOne cfg ps i = { ps with wanted := ps.wanted ++ firstZone cfg h }) := by
  intro h found
  cases assigned : h.assignment with
  | some ap => exact .inl ⟨rfl, if_pos (by rw [assigned]; rfl)⟩
  | none =>
    have free : ¬h.assignment.isSome = true := by simp [assigned]
    cases first : found with
    | none =>
      refine .inr (.inr ⟨rfl, rfl, (if_neg free).trans ?_⟩)
      rw [show List.find? _ _ = none from first]
    | some ap =>
      obtain ⟨z, b, zone, -⟩ := placeable_spec (List.find?_some first)
      refine .inr (.inl ⟨rfl, ap, z, rfl, zone, (if_neg free).trans ?_⟩)
      rw [show List.find? _ _ = some ap from first]
      simp only [zone]
      rfl

theorem placeOne_other (cfg : StationConfig) (ps : PassState) {i j : Fin 8} (ne : j ≠ i) :
    (placeOne cfg ps i).helios[j] = ps.helios[j] := by
  obtain ⟨-, e⟩ | ⟨-, ap, z, -, -, e⟩ | ⟨-, -, e⟩ := placeOne_cases cfg ps i <;> rw [e]
  exact set_helio_other _ _ _ _ ne

/-- R170: an aim point has a zone of interest whose allowance holds a P beside what is used of it. -/
def State.hasRoom (s : State) (used : Nat → Nat) (p ap : Nat) : Bool :=
  match s.cfg.zoneOf ap with
  | none => false
  | some z => s.interest.contains z && decide (used z + p ≤ s.allowance z)

theorem State.hasRoom_iff {s : State} {used : Nat → Nat} {p ap : Nat} : s.hasRoom used p ap = true ↔
    ∃ z, s.cfg.zoneOf ap = some z ∧ z ∈ s.interest ∧ used z + p ≤ s.allowance z := by
  rw [State.hasRoom]
  cases s.cfg.zoneOf ap <;> simp

/-- R170: what is left of a zone after a spend. -/
theorem remaining_spend (bs : List ZoneBudget) (z p : Nat) (keep : Bool) (y : Nat) :
    (budgetFor (spend bs z p keep) y).map ZoneBudget.remaining =
      ((budgetFor bs y).map ZoneBudget.remaining).map fun left => if z = y then left - p else left := by
  rw [budgetFor_spend]
  cases budget : budgetFor bs y with
  | none => rfl
  | some b =>
    rw [← budgetFor_zone budget, Option.map_some, Option.map_some, Option.map_some, Option.map_some]
    by_cases own : z = b.zone
    · rw [if_pos own.symm, if_pos own]
    · rw [if_neg (Ne.symm own), if_neg own]

/-! ## The place pass as far as a part of the order -/

/-- R170: the place pass over a list of heliostats. -/
def State.placePass (s : State) (l : List (Fin 8)) : PassState := l.foldl (placeOne s.cfg) s.kept

theorem State.passes_eq (s : State) : s.passes = s.placePass (rankedEligible s.helios) := rfl

theorem State.placePass_concat (s : State) (l : List (Fin 8)) (i : Fin 8) :
    s.placePass (l ++ [i]) = placeOne s.cfg (s.placePass l) i := by
  simp [State.placePass]

/-- A heliostat stands as the place pass left it once it has been taken. -/
theorem State.placePass_settled (s : State) (l : List (Fin 8)) {m : List (Fin 8)} {j : Fin 8} (later : j ∉ m) :
    (s.placePass (l ++ m)).helios[j] = (s.placePass l).helios[j] := by
  rw [State.placePass, List.foldl_append]
  exact List.foldlRecOn (motive := fun ps : PassState => ps.helios[j] = (s.placePass l).helios[j]) m _ rfl
    fun ps same i hi => (placeOne_other _ _ (ne_of_mem_of_not_mem hi later).symm).trans same

/-- What is used of a zone: the P of all that are kept in it, and of those the place pass over a list has placed there. -/
def State.usedSum (s : State) (l : List (Fin 8)) (z : Nat) : Nat :=
  sumOfP s (keptIn s.cfg s.kept.helios z) + s.sumOver l (placedIn s.cfg (s.placePass l).helios z)

/-- A heliostat that the place pass has neither kept nor placed, whose first candidate lies in a zone. -/
def State.Wants (s : State) (v : Vector Helio 8) (z : Nat) (j : Fin 8) : Prop :=
  v[j].assignment = none ∧ v[j].deferred = none ∧ zoneOfField s.cfg s.helios[j].cfg.candidates.head? = some z

/-- What the place pass over a list has done: of the others nothing, and of each allowance there is left what is not used. -/
structure State.PlaceState (s : State) (l : List (Fin 8)) : Prop where
  rest : ∀ j, j ∉ l → (s.placePass l).helios[j] = s.kept.helios[j]
  remaining : ∀ z, (budgetFor (s.placePass l).budgets z).map ZoneBudget.remaining =
    if z ∈ s.interest then some (s.allowance z - s.usedSum l z) else none
  fits : ∀ z, s.usedSum l z ≤ if z ∈ s.interest then s.allowance z else 0
  wanted : ∀ z, z ∈ (s.placePass l).wanted ↔ ∃ j ∈ l, s.Wants (s.placePass l).helios z j

/-- The passes leave the record and the P of a heliostat. -/
theorem State.kept_record (s : State) (i : Fin 8) :
    s.kept.helios[i].cfg = s.helios[i].cfg ∧ s.kept.helios[i].p = s.helios[i].p := by
  cases e : s.helios[i].eligible
  · rw [State.kept_of_ineligible e]
    exact ⟨rfl, rfl⟩
  · obtain ⟨-, h⟩ | ⟨-, h⟩ := State.kept_of_eligible e <;> rw [h] <;> exact ⟨rfl, rfl⟩

theorem State.keepPass_wanted (s : State) (l : List (Fin 8)) : (s.keepPass l).wanted = [] :=
  List.foldlRecOn (motive := fun ps : PassState => ps.wanted = []) l _ rfl
    fun ps same i _ => (keepOne_wanted _ ps i).trans same

namespace State.PlaceState

variable {s : State} {l : List (Fin 8)} {i : Fin 8}

theorem nil (s : State) : s.PlaceState [] where
  rest _ _ := rfl
  remaining z := by
    have used : s.usedSum [] z = s.keptSum (rankedEligible s.helios) z := (s.keptSum_order z).symm
    have budgets := s.keepState_order.budgets z
    show (budgetFor s.kept.budgets z).map _ = _
    rw [used, State.kept, budgets]
    split <;> rfl
  fits z := by
    have used : s.usedSum [] z = s.keptSum (rankedEligible s.helios) z := (s.keptSum_order z).symm
    refine used.trans_le ((s.keepState_order.fits z).trans ?_)
    split
    · exact Nat.min_le_left _ _
    · exact Nat.le_refl 0
  wanted z := by simp [show (s.placePass []).wanted = [] from s.keepPass_wanted _]

/-- R170: in the place pass a candidate has room by what is used so far. -/
theorem placeable_eq (k : s.PlaceState l) (p : Nat) :
    placeable s.cfg (s.placePass l).budgets p = s.hasRoom (s.usedSum l) p := by
  funext ap
  rw [Bool.eq_iff_iff, State.hasRoom_iff]
  constructor
  · intro room
    obtain ⟨z, b, zone, budget, left⟩ := placeable_spec room
    have remaining := k.remaining z
    have fits := k.fits z
    rw [budget] at remaining
    split at remaining
    · rename_i interest
      rw [if_pos interest] at fits
      have value := Option.some.inj remaining
      exact ⟨z, zone, interest, by omega⟩
    · cases remaining
  · rintro ⟨z, zone, interest, room⟩
    have remaining := k.remaining z
    rw [if_pos interest, Option.map_eq_some_iff] at remaining
    obtain ⟨b, budget, value⟩ := remaining
    simp only [placeable, zone, budget, value]
    exact decide_eq_true (by omega)

/-- R170: the heliostat that comes next. -/
theorem next (k : s.PlaceState l) (fresh : i ∉ l) :
    let h := s.kept.helios[i]
    let found := s.helios[i].cfg.candidates.find? (s.hasRoom (s.usedSum l) s.helios[i].p)
    (h.assignment.isSome = true ∧ s.placePass (l ++ [i]) = s.placePass l) ∨
    (h.assignment = none ∧ ∃ ap z, found = some ap ∧ s.cfg.zoneOf ap = some z ∧ z ∈ s.interest ∧
      s.usedSum l z + s.helios[i].p ≤ s.allowance z ∧ s.placePass (l ++ [i]) = { s.placePass l with
        helios := (s.placePass l).helios.set i (h.deferTo ap)
        budgets := spend (s.placePass l).budgets z s.helios[i].p false }) ∨
    (h.assignment = none ∧ found = none ∧ s.placePass (l ++ [i]) = { s.placePass l with
      wanted := (s.placePass l).wanted ++ firstZone s.cfg h }) := by
  intro h found
  obtain ⟨cfg, p⟩ := s.kept_record i
  have one := placeOne_cases s.cfg (s.placePass l) i
  simp only [← s.placePass_concat, k.rest i fresh, k.placeable_eq, cfg, p] at one
  obtain kept | ⟨free, ap, z, first, zone, whole⟩ | wants := one
  · exact .inl kept
  · obtain ⟨y, zone', interest, room⟩ := State.hasRoom_iff.1 (List.find?_some first)
    obtain rfl : z = y := Option.some.inj (zone.symm.trans zone')
    exact .inr (.inl ⟨free, ap, z, first, zone, interest, room, whole⟩)
  · exact .inr (.inr wants)

/-- What is used of a zone with one heliostat more. -/
theorem usedSum_concat (s : State) (fresh : i ∉ l) (z : Nat) : s.usedSum (l ++ [i]) z =
    s.usedSum l z + if placedIn s.cfg (s.placePass (l ++ [i])).helios z i then s.helios[i].p else 0 := by
  rw [State.usedSum, State.usedSum, s.sumOver_concat, Nat.add_assoc]
  refine congrArg (fun n => _ + (n + _)) (s.sumOver_congr fun j hj => placedIn_congr ?_ z)
  rw [s.placePass_concat, placeOne_other _ _ (ne_of_mem_of_not_mem hj fresh)]

/-- The zones wanted with one heliostat more. -/
theorem wanted_concat (k : s.PlaceState l) (fresh : i ∉ l) {zones : List Nat} {z : Nat}
    (whole : (s.placePass (l ++ [i])).wanted = (s.placePass l).wanted ++ zones)
    (own : z ∈ zones ↔ s.Wants (s.placePass (l ++ [i])).helios z i) :
    z ∈ (s.placePass (l ++ [i])).wanted ↔ ∃ j ∈ l ++ [i], s.Wants (s.placePass (l ++ [i])).helios z j := by
  have others : ∀ j ∈ l, s.Wants (s.placePass (l ++ [i])).helios z j ↔ s.Wants (s.placePass l).helios z j := fun j hj => by
    rw [State.Wants, s.placePass_concat, placeOne_other _ _ (ne_of_mem_of_not_mem hj fresh)]
    rfl
  rw [whole, List.mem_append, k.wanted, own]
  simp only [List.mem_append, List.mem_singleton, or_and_right, exists_or, exists_eq_left]
  exact or_congr_left (exists_congr fun j => and_congr_right fun hj => (others j hj).symm)

theorem concat (k : s.PlaceState l) (fresh : i ∉ l) : s.PlaceState (l ++ [i]) := by
  have sums := usedSum_concat s fresh
  have rest : ∀ j, j ∉ l ++ [i] → (s.placePass (l ++ [i])).helios[j] = s.kept.helios[j] := fun j hj => by
    rw [List.mem_append, List.mem_singleton, not_or] at hj
    rw [s.placePass_concat, placeOne_other _ _ hj.2, k.rest j hj.1]
  have here : (s.placePass l).helios[i] = s.kept.helios[i] := k.rest i fresh
  have unplaced : (s.placePass (l ++ [i])).helios[i] = s.kept.helios[i] → s.usedSum (l ++ [i]) = s.usedSum l :=
    fun same => funext fun z => by
      rw [sums, placedIn, same, s.kept_deferred]
      rfl
  obtain ⟨kept, whole⟩ | ⟨free, ap, y, -, zone, interest, room, whole⟩ | ⟨free, -, whole⟩ := k.next fresh
  · have used := unplaced (by rw [whole, here])
    refine ⟨rest, by rw [used, whole]; exact k.remaining, by rw [used]; exact k.fits, fun z => ?_⟩
    refine k.wanted_concat fresh (zones := []) (by rw [whole, List.append_nil]) ⟨nofun, fun wants => ?_⟩
    rw [State.Wants, whole, here] at wants
    rw [wants.1] at kept
    cases kept
  · have placed : ∀ z, placedIn s.cfg (s.placePass (l ++ [i])).helios z i = decide (y = z) := fun z => by
      rw [whole, placedIn, set_helio_self]
      show (s.cfg.zoneOf ap == some z) = _
      rw [zone]
      rfl
    refine ⟨rest, fun z => ?_, fun z => ?_, fun z => ?_⟩
    · rw [sums, placed, whole]
      show (budgetFor (spend (s.placePass l).budgets y s.helios[i].p false) z).map _ = _
      rw [remaining_spend, k.remaining]
      by_cases mem : z ∈ s.interest <;> by_cases own : y = z <;> simp [mem, own, Nat.sub_sub]
    · rw [sums, placed]
      by_cases own : y = z
      · subst own
        simpa [interest] using room
      · simpa [own] using k.fits z
    · refine k.wanted_concat fresh (zones := []) (by rw [whole, List.append_nil]) ⟨nofun, fun wants => ?_⟩
      rw [State.Wants, whole, set_helio_self] at wants
      cases wants.2.1
  · have same : (s.placePass (l ++ [i])).helios[i] = s.kept.helios[i] := by rw [whole]; exact here
    have used := unplaced same
    refine ⟨rest, by rw [used, whole]; exact k.remaining, by rw [used]; exact k.fits, fun z => ?_⟩
    refine k.wanted_concat fresh (by rw [whole]) ?_
    rw [mem_firstZone, State.Wants, same, s.kept_deferred, (s.kept_record i).1]
    exact ⟨fun zone => ⟨free, rfl, zone⟩, fun wants => wants.2.2⟩

end State.PlaceState

theorem State.placeState (s : State) {l : List (Fin 8)} (d : l.Nodup) : s.PlaceState l := by
  induction l using List.reverseRecOn with
  | nil => exact .nil s
  | append_singleton l i ih =>
    obtain ⟨d, -, apart⟩ := List.nodup_append.1 d
    exact (ih d).concat fun hi => apart i hi i (List.mem_singleton_self i) rfl

end Sys2Proof.Machine
end

section
/-! An allocation (R162, R168 to R172): what the two passes make of each heliostat, of the contribution list, and of the frame
that is built. -/

namespace Sys2Proof.Machine

/-! ## What the passes make of a heliostat -/

theorem State.placeState_order (s : State) : s.PlaceState (rankedEligible s.helios) :=
  s.placeState (rankedEligible_nodup _)

/-- R170: where a heliostat stands in the order, the passes leave it as its turn in the place pass did. -/
theorem State.passes_settled {s : State} {before after : List (Fin 8)} {i : Fin 8}
    (order : rankedEligible s.helios = before ++ i :: after) :
    i ∉ before ∧ before.Nodup ∧ s.passes.helios[i] = (s.placePass (before ++ [i])).helios[i] ∧
      ∀ j ∈ before, s.passes.helios[j] = (s.placePass before).helios[j] := by
  have nodup := rankedEligible_nodup s.helios
  rw [order] at nodup
  obtain ⟨first, second, apart⟩ := List.nodup_append.1 nodup
  refine ⟨fun hi => apart i hi i List.mem_cons_self rfl, first, ?_, fun j hj => ?_⟩
  · rw [State.passes_eq, order, List.append_cons, s.placePass_settled _ (List.nodup_cons.1 second).1]
  · rw [State.passes_eq, order, s.placePass_settled before fun hj' => apart j hj j hj' rfl]

theorem State.passes_of_ineligible {s : State} {i : Fin 8} (e : s.helios[i].eligible = false) :
    s.passes.helios[i] = { s.helios[i] with assignment := none, deferred := none, placementP := 0 } := by
  rw [← State.kept_of_ineligible e]
  exact s.placeState_order.rest i fun hi => absurd ((mem_rankedEligible.1 hi).symm.trans e) nofun

/-- R170: the place pass leaves a kept heliostat alone, and defers another to its first candidate with room, if any. -/
theorem State.passes_of_kept {s : State} {i : Fin 8} (e : s.helios[i].eligible = true) :
    let h := s.kept.helios[i]
    let used := fun z => sumOfP s (keptIn s.cfg s.kept.helios z) +
      sumOfP s fun j => takenBefore s i j && placedIn s.cfg s.passes.helios z j
    let found := s.helios[i].cfg.candidates.find? (s.hasRoom used s.helios[i].p)
    (h.assignment.isSome = true → s.passes.helios[i] = h) ∧
    (h.assignment = none → s.passes.helios[i] =
      { h with deferred := found, placementP := if found.isSome then s.helios[i].p else h.placementP }) := by
  intro h used found
  obtain ⟨before, after, order⟩ := List.append_of_mem (mem_rankedEligible.2 e)
  obtain ⟨fresh, nodup, here, earlier⟩ := State.passes_settled order
  have state := s.placeState nodup
  have sums : s.usedSum before = used := funext fun z => by
    refine congrArg (_ + ·) (Eq.trans ?_ (sumOver_before s order _))
    exact s.sumOver_congr fun j hj => (placedIn_congr (congrArg Helio.deferred (earlier j hj)) z).symm
  have value := state.next fresh
  rw [sums] at value
  have stands : (s.placePass before).helios[i] = h := state.rest i fresh
  obtain ⟨kept, whole⟩ | ⟨free, ap, z, first, -, -, -, whole⟩ | ⟨free, first, whole⟩ := value
  · refine ⟨fun _ => by rw [here, whole, stands], fun free => ?_⟩
    rw [show s.kept.helios[i].assignment = none from free] at kept
    cases kept
  · refine ⟨fun kept => ?_, fun _ => ?_⟩
    · rw [show h.assignment = none from free] at kept
      cases kept
    · rw [here, whole, set_helio_self, show found = some ap from first]
      exact congrArg (fun p => { h with deferred := some ap, placementP := p }) (s.kept_record i).2
  · refine ⟨fun kept => ?_, fun _ => ?_⟩
    · rw [show h.assignment = none from free] at kept
      cases kept
    · rw [here, whole, show found = none from first]
      exact stands.trans (congrArg (fun d => { h with deferred := d }) (s.kept_deferred i))

/-- R169, R170: the place pass assigns nothing and takes no assignment. -/
theorem State.passes_assignment (s : State) (i : Fin 8) : s.passes.helios[i].assignment = s.kept.helios[i].assignment := by
  cases e : s.helios[i].eligible
  · rw [State.passes_of_ineligible e, State.kept_of_ineligible e]
  · obtain ⟨kept, free⟩ := State.passes_of_kept e
    cases a : s.kept.helios[i].assignment with
    | none => rw [free a, a]
    | some ap => rw [kept (by rw [a]; rfl), a]

theorem State.keptIn_passes (s : State) : keptIn s.cfg s.passes.helios = keptIn s.cfg s.kept.helios :=
  funext fun z => funext fun j => keptIn_congr (s.passes_assignment j) z

/-- R168 to R170: what the two passes make of an eligible heliostat. -/
theorem State.passes_of_eligible {s : State} {i : Fin 8} (e : s.helios[i].eligible = true) :
    let before := fun z => sumOfP s fun j => takenBefore s i j && keptIn s.cfg s.passes.helios z j
    let used := fun z => sumOfP s (keptIn s.cfg s.passes.helios z) +
      sumOfP s fun j => takenBefore s i j && placedIn s.cfg s.passes.helios z j
    let found := s.helios[i].cfg.candidates.find? (s.hasRoom used s.helios[i].p)
    (s.Keeps i before ∧ s.passes.helios[i] = { s.helios[i].emptied with countedP := s.helios[i].p }) ∨
      (¬s.Keeps i before ∧ s.passes.helios[i] = { s.helios[i] with
        assignment := none, deferred := found, placementP := if found.isSome then s.helios[i].p else 0 }) := by
  rw [s.keptIn_passes]
  obtain ⟨kept, free⟩ := State.passes_of_kept e
  obtain ⟨keeps, value⟩ | ⟨no, value⟩ := State.kept_of_eligible e
  · refine .inl ⟨keeps, (kept ?_).trans value⟩
    obtain ⟨z, -, zone, -⟩ := keeps
    obtain ⟨ap, assigned, -⟩ := zoneOfField_eq_some.1 zone
    rw [value]
    exact Option.isSome_iff_exists.2 ⟨ap, assigned⟩
  · refine .inr ⟨no, (free (by rw [value])).trans ?_⟩
    rw [value]
    rfl

/-! ## The contribution list (R172) -/

/-- The P of those the passes keep in a zone and place there. -/
def State.allocated (s : State) (z : Nat) : Nat :=
  sumOfP s (keptIn s.cfg s.passes.helios z) + sumOfP s (placedIn s.cfg s.passes.helios z)

theorem State.eligible_of_placedIn {s : State} {z : Nat} {j : Fin 8} (h : placedIn s.cfg s.passes.helios z j = true) :
    s.helios[j].eligible = true := by
  by_contra n
  rw [placedIn, State.passes_of_ineligible (Bool.eq_false_iff.2 n)] at h
  cases h

theorem State.usedSum_order (s : State) (z : Nat) : s.usedSum (rankedEligible s.helios) z = s.allocated z := by
  rw [State.allocated, s.keptIn_passes]
  exact congrArg (_ + ·) (sumOver_order s fun _ => State.eligible_of_placedIn)

/-- R169, R170: what is kept in a zone is within its published value, and with what is placed there within its allowance. -/
theorem State.allocated_le (s : State) (z : Nat) :
    sumOfP s (keptIn s.cfg s.passes.helios z) ≤ (if z ∈ s.interest then min (s.allowance z) (s.published z) else 0) ∧
      s.allocated z ≤ if z ∈ s.interest then s.allowance z else 0 := by
  have kept := s.keepState_order.fits z
  have used := s.placeState_order.fits z
  rw [s.keptSum_order, ← s.keptIn_passes] at kept
  rw [s.usedSum_order] at used
  exact ⟨kept, used⟩

/-- R172: what the contribution list plans for a zone. -/
theorem State.plannedFor_contributionList (s : State) (z : Nat) :
    plannedFor (s.contributionList s.passes) z = s.allocated z := by
  have left := s.placeState_order.remaining z
  have within := (s.allocated_le z).2
  rw [s.usedSum_order, ← State.passes_eq] at left
  rw [State.contributionList, plannedFor_map]
  split
  · rename_i interest
    rw [if_pos interest] at left within
    obtain ⟨b, budget, value⟩ := Option.map_eq_some_iff.1 left
    rw [budget]
    show s.allowance z - b.remaining = _
    omega
  · rename_i other
    rw [if_neg other] at within
    omega

/-- R172: the want flag of an interest zone. -/
theorem State.wantFor_contributionList (s : State) {z : Nat} (interest : z ∈ s.interest) :
    wantFor (s.contributionList s.passes) z = true ↔
      ∃ j : Fin 8, s.helios[j].eligible = true ∧ s.Wants s.passes.helios z j := by
  have item : wantFor (s.contributionList s.passes) z = s.passes.wanted.contains z := by
    rw [wantFor, State.contributionList, itemFor_zones _ _ (fun _ => rfl), if_pos interest]
  rw [item, List.contains_iff_mem, State.passes_eq, s.placeState_order.wanted]
  exact exists_congr fun j => and_congr_left' mem_rankedEligible

/-! ## The frame built -/

/-- R95: the marks and the bytes of a built frame leave what the Flux Allocator supplies. -/
theorem State.buildFrame_supplied (s : State) : s.buildFrame.helios = s.supplyPlan.helios ∧
    s.buildFrame.fa = s.supplyPlan.fa ∧ s.buildFrame.cfg = s.supplyPlan.cfg :=
  ⟨s.change_helios _, s.change_fa _, s.change_cfg _⟩

theorem State.supplyPlan_of_operating {s : State} (operating : s.sc.state = .operating) : s.supplyPlan = s.allocate := by
  simp only [State.supplyPlan, operating]

/-- Settles O34: the build's allocation, heliostat by heliostat. -/
theorem keepAndPlacePasses : Obligations.KeepAndPlacePasses := by
  intro s will operating
  obtain ⟨helios, fa, cfg⟩ := s.buildFrame_supplied
  rw [State.supplyPlan_of_operating operating] at helios fa cfg
  refine ⟨s.buildFrame, congrArg _ (if_pos will), ?_⟩
  generalize s.buildFrame = t at helios fa cfg
  have keptOn_eq : keptOn t = keptIn s.cfg s.passes.helios := by
    funext z j
    rw [keptOn, cfg, helios]
    rfl
  have placedOn_eq : placedOn t = placedIn s.cfg s.passes.helios := by
    funext z j
    rw [placedOn, cfg, helios]
    rfl
  rw [keptOn_eq, placedOn_eq, helios, fa]
  refine ⟨fun i e => State.passes_of_ineligible e, fun i e => ?_, fun z interest => ?_⟩
  · intro h keeps fits
    have room : fits = s.hasRoom (fun z => sumOfP s (keptIn s.cfg s.passes.helios z) +
        sumOfP s fun j => takenBefore s i j && placedIn s.cfg s.passes.helios z j) h.p := by
      funext ap
      rw [Bool.eq_iff_iff, State.hasRoom_iff]
      cases zone : s.cfg.zoneOf ap <;> simp [fits, zone]
    rw [room]
    obtain ⟨yes, value⟩ | ⟨no, value⟩ := State.passes_of_eligible e
    · exact ⟨fun _ => value, fun no => absurd yes no⟩
    · exact ⟨fun yes => absurd yes no, fun _ => value⟩
  · exact s.wantFor_contributionList interest

end Sys2Proof.Machine
end

section
/-! What the published flux rests on (R177): the claims of a heliostat on a zone, and what every operation on one heliostat
leaves of them. -/

namespace Sys2Proof.Machine

/-! ## Placements and levels (R65, R69, R71) -/

/-- R7, R8, R65, R69: an aim point is held or deferred at TRACK alone, never both, and a snapshot exactly at DEFOCUS. -/
structure Helio.Placed (h : Helio) : Prop where
  assigned : h.assignment.isSome = true → h.engaged = .track
  deferred : h.deferred.isSome = true → h.engaged = .track ∧ h.assignment = none
  snapshot : h.snapshot.isSome = true ↔ h.engaged = .defocus

theorem placementsOk_iff (s : State) : PlacementsOk s ↔ ∀ i : Fin 8, s.helios[i].Placed :=
  forall_congr' fun _ => ⟨fun ⟨a, d, n⟩ => ⟨a, d, n⟩, fun ⟨a, d, n⟩ => ⟨a, d, n⟩⟩

/-- A heliostat without a placement or a snapshot is in order at a level it enters. -/
theorem Helio.placed_enter {h : Helio} (unassigned : h.assignment = none) (undeferred : h.deferred = none)
    (cleared : h.snapshot = none) (l : Level) : (h.enter l).Placed := by
  refine ⟨by simp [unassigned], by simp [undeferred], ?_⟩
  rw [Helio.enter_engaged]
  by_cases defocus : l = .defocus
  · subst defocus
    exact ⟨fun _ => rfl, fun _ => rfl⟩
  · rw [h.enter_snapshot defocus, cleared]
    exact ⟨nofun, fun e => absurd e defocus⟩

/-- R69: at TRACK a level that is left takes the placement with it, at DEFOCUS the snapshot. -/
theorem Helio.Placed.leave {h : Helio} (ok : h.Placed) :
    h.leave.assignment = none ∧ h.leave.deferred = none ∧ h.leave.snapshot = none := by
  obtain ⟨assigned, deferred, snapshot⟩ := ok
  have none_of {α : Type} {o : Option α} {p : Prop} (n : ¬p) (h : o.isSome = true → p) : o = none :=
    Option.not_isSome_iff_eq_none.1 (mt h n)
  refine ⟨?_, ?_, ?_⟩
  · by_cases track : h.engaged = .track
    · rw [h.leave_spec.1 track]
      rfl
    · rw [(Helio.leave_placement track).1, none_of track assigned]
  · by_cases track : h.engaged = .track
    · rw [h.leave_spec.1 track]
      rfl
    · rw [(Helio.leave_placement track).2.1, none_of track fun e => (deferred e).1]
  · by_cases defocus : h.engaged = .defocus
    · rw [h.leave_spec.2.1 defocus]
    · rw [Helio.leave_snapshot defocus, none_of defocus snapshot.1]

/-- R69: a level that is left replaces no placement. -/
theorem Helio.leave_claims (h : Helio) : (∀ ap, h.leave.assignment = some ap → h.assignment = some ap) ∧
    ∀ ap, h.leave.deferred = some ap → h.deferred = some ap ∧ h.leave.placementP = h.placementP := by
  by_cases track : h.engaged = .track
  · rw [h.leave_spec.1 track]
    exact ⟨nofun, nofun⟩
  · obtain ⟨assignment, deferred, placementP⟩ := Helio.leave_placement track
    rw [assignment, deferred, placementP]
    exact ⟨fun _ => id, fun _ e => ⟨e, rfl⟩⟩

/-! ## One heliostat through an operation -/

/-- The fields of a heliostat that its claims, its placement and its service rest on. -/
def Helio.claimView (h : Helio) : HelioConfig × Bool × Option Nat × Option Nat × Nat × Nat × Level × Option Steps :=
  (h.cfg, h.inService, h.assignment, h.deferred, h.placementP, h.countedP, h.engaged, h.snapshot)

/-- An operation on a heliostat that adds nothing to what it claims, and leaves its placement in order. -/
structure Helio.Yields (h h' : Helio) : Prop where
  cfg : h'.cfg = h.cfg
  counted : h'.countedP = h.countedP
  assignment : ∀ ap, h'.assignment = some ap → h.assignment = some ap
  deferred : ∀ ap, h'.deferred = some ap → h.deferred = some ap ∧ h'.placementP = h.placementP
  placed : h.Placed → h'.Placed

/-- One that besides takes it neither out of service nor into it. -/
structure Helio.Serves (h h' : Helio) : Prop extends Helio.Yields h h' where
  inService : h'.inService = h.inService

theorem Helio.Yields.trans {h h' h'' : Helio} (a : Helio.Yields h h') (b : Helio.Yields h' h'') : Helio.Yields h h'' where
  cfg := b.cfg.trans a.cfg
  counted := b.counted.trans a.counted
  assignment ap e := a.assignment ap (b.assignment ap e)
  deferred ap e := by
    obtain ⟨middle, same⟩ := b.deferred ap e
    obtain ⟨first, same'⟩ := a.deferred ap middle
    exact ⟨first, same.trans same'⟩
  placed := b.placed ∘ a.placed

/-- R14, R61: SERVICE-OUT. -/
theorem Helio.Yields.takeOut (h : Helio) : Helio.Yields h h.takeOut :=
  ⟨rfl, rfl, nofun, nofun, fun ok => ⟨nofun, nofun, ok.snapshot⟩⟩

/-- R15: SERVICE-IN, less its homing start. -/
theorem Helio.Yields.takeIn (h : Helio) : Helio.Yields h h.takeIn :=
  ⟨rfl, rfl, fun _ => id, fun _ e => ⟨e, rfl⟩, fun ok => ⟨ok.assigned, ok.deferred, ok.snapshot⟩⟩

namespace Helio.Serves

variable {h h' h'' : Helio}

protected theorem refl (h : Helio) : Helio.Serves h h := ⟨⟨rfl, rfl, fun _ => id, fun _ e => ⟨e, rfl⟩, id⟩, rfl⟩

protected theorem trans (a : Helio.Serves h h') (b : Helio.Serves h' h'') : Helio.Serves h h'' :=
  ⟨a.toYields.trans b.toYields, b.inService.trans a.inService⟩

/-- An operation on other fields alone. -/
theorem of_view (same : h'.claimView = h.claimView) : Helio.Serves h h' := by
  simp only [Helio.claimView, Prod.mk.injEq] at same
  obtain ⟨cfg, inService, assignment, deferred, placement, counted, engaged, snapshot⟩ := same
  refine ⟨⟨cfg, counted, fun ap e => assignment ▸ e, fun ap e => ⟨deferred ▸ e, placement⟩, fun ok => ?_⟩, inService⟩
  constructor
  · rw [assignment, engaged]
    exact ok.assigned
  · rw [deferred, engaged, assignment]
    exact ok.deferred
  · rw [snapshot, engaged]
    exact ok.snapshot

/-- R162, R175: a deferred placement emptied. -/
theorem emptied (h : Helio) : Helio.Serves h { h with deferred := none, placementP := 0 } :=
  ⟨⟨rfl, rfl, fun _ => id, nofun, fun ok => ⟨ok.assigned, nofun, ok.snapshot⟩⟩, rfl⟩

/-- R6, R59: a fault that is recorded empties the deferred placement. -/
theorem detect (h : Helio) (k : HelioFault) : Helio.Serves h (h.detect k) := by
  obtain ⟨-, e⟩ | ⟨-, e⟩ := h.detect_cases k <;> rw [e]
  · exact .refl h
  · exact (emptied h).trans (of_view rfl)

/-- R68 to R72: a recomputed engaged level. -/
theorem reengage (h : Helio) (src : Sources) (l : Bool) : Helio.Serves h (h.reengage src l) := by
  obtain ⟨-, e⟩ | ⟨-, e⟩ := h.reengage_cases src l <;> rw [e]
  · exact .refl h
  · generalize h.governing src l = new
    obtain ⟨assignment, deferred⟩ := h.leave_claims
    refine ⟨⟨by simp, by simp, by simpa using assignment, by simpa using deferred, fun ok => ?_⟩, by simp⟩
    obtain ⟨unassigned, undeferred, cleared⟩ := ok.leave
    exact Helio.placed_enter unassigned undeferred cleared new

theorem homingStart (h : Helio) : Helio.Serves h h.homingStart := by
  simp only [Helio.homingStart]
  split
  · refine .trans ?_ (detect _ _)
    exact of_view rfl
  · exact of_view rfl

theorem rehome (h : Helio) : Helio.Serves h h.rehome :=
  .trans (h' := { h with fault := .none }) (of_view rfl) (homingStart _)

theorem takeHold (h : Helio) (t : Steps) : Helio.Serves h (h.takeHold t) := by
  simp only [Helio.takeHold]
  split <;> exact of_view rfl

theorem setAxis (h : Helio) (a : AxisId) (x : Axis) : Helio.Serves h (h.setAxis a x) := of_view (by simp [Helio.claimView])

theorem homefailTest (h : Helio) (a : AxisId) : Helio.Serves h (h.homefailTest a) := by
  simp only [Helio.homefailTest]
  split
  · exact detect h _
  · exact .refl h

/-- R44, R57: a step of an axis. -/
theorem stepAxis (h : Helio) (a : AxisId) : Helio.Serves h (h.stepAxis a) :=
  (setAxis h a _).trans ((homefailTest _ a).trans (setAxis _ a _))

theorem homingEdge (h : Helio) (a : AxisId) : Helio.Serves h (h.homingEdge a) := by cases a <;> exact of_view rfl

/-- R22: a turn writes targets and estimates. -/
theorem turn (h : Helio) (cfg : StationConfig) (r : Nat) (sun : Vec3) : Helio.Serves h (h.turn cfg r sun) := by
  have aimed : Helio.Serves h (h.targetPart cfg sun) := by
    simp only [Helio.targetPart, Helio.aimAlong]
    repeat' split
    all_goals exact of_view rfl
  simp only [Helio.turn]
  split
  · rw [Helio.estimatePart_frame]
    exact aimed.trans (of_view rfl)
  · exact .refl h

end Helio.Serves

end Sys2Proof.Machine
end

section
/-! Chapter 9 through the shared operations: the claims on each zone against what is published and carried (R177), the interest
set (R12), the NIGHT source (R189) and the planning irradiance (R159). -/

namespace Sys2Proof.Machine

/-! ## Claims on a zone -/

/-- A sum over a bank, taken heliostat by heliostat. -/
theorem sum_helios (v : Vector Helio 8) (f : Helio → Nat) :
    (v.toList.map f).sum = ((List.finRange 8).map fun i => f v[i]).sum := by
  have bank : v.toList = (List.finRange 8).map fun i => v[i] := by
    rw [← List.ofFn_eq_map, ← Vector.toList_ofFn]
    exact congrArg _ Vector.ofFn_getElem.symm
  rw [bank, List.map_map]
  rfl

theorem sum_helios_le {v w : Vector Helio 8} {f g : Helio → Nat} (h : ∀ i : Fin 8, f v[i] ≤ g w[i]) :
    (v.toList.map f).sum ≤ (w.toList.map g).sum := by
  rw [sum_helios, sum_helios]
  exact List.sum_le_sum fun i _ => h i

/-- A heliostat that adds nothing to its claims claims no more of a zone. -/
theorem Helio.Yields.assignedShare_le {h h' : Helio} (y : Helio.Yields h h') (cfg : StationConfig) (z : Nat) :
    assignedShare cfg z h' ≤ assignedShare cfg z h := by
  rw [assignedShare, assignedShare]
  split
  · rename_i zone
    obtain ⟨ap, assigned, zone⟩ := zoneOfField_eq_some.1 zone
    rw [if_pos (zoneOfField_eq_some.2 ⟨ap, y.assignment ap assigned, zone⟩), y.counted]
  · exact Nat.zero_le _

theorem Helio.Yields.deferredShare_le {h h' : Helio} (y : Helio.Yields h h') (cfg : StationConfig) (z : Nat) :
    deferredShare cfg z h' ≤ deferredShare cfg z h := by
  rw [deferredShare, deferredShare]
  split
  · rename_i zone
    obtain ⟨ap, deferred, zone⟩ := zoneOfField_eq_some.1 zone
    obtain ⟨before, same⟩ := y.deferred ap deferred
    rw [if_pos (zoneOfField_eq_some.2 ⟨ap, before, zone⟩), same]
  · exact Nat.zero_le _

/-- R7, R8: an aim point still held or deferred is still a candidate. -/
theorem Helio.Yields.candidates {h h' : Helio} (y : Helio.Yields h h')
    (ok : (∀ ap ∈ h.assignment, ap ∈ h.cfg.candidates) ∧ ∀ ap ∈ h.deferred, ap ∈ h.cfg.candidates) :
    (∀ ap ∈ h'.assignment, ap ∈ h'.cfg.candidates) ∧ ∀ ap ∈ h'.deferred, ap ∈ h'.cfg.candidates := by
  rw [y.cfg]
  exact ⟨fun ap e => ok.1 ap (y.assignment ap e), fun ap e => ok.2 ap (y.deferred ap e).1⟩

/-- R177 less the engaged levels, the interest set and the NIGHT source: what is assigned is within what is published, and what
is assigned or deferred within what is carried. -/
structure State.ClaimsOk (s : State) : Prop where
  bounded : FluxBounded s
  placed : ∀ i : Fin 8, s.helios[i].Placed
  candidates : CandidatesOk s
  carried : CarriedOk s

/-- Heliostats that add nothing to their claims, and a plan that takes nothing back. -/
theorem State.ClaimsOk.of_yields {s t : State} (ok : s.ClaimsOk) (cfg : t.cfg = s.cfg)
    (each : ∀ i : Fin 8, Helio.Yields s.helios[i] t.helios[i]) (published : t.published = s.published)
    (phase : t.bi.tx.phase = .empty ↔ s.bi.tx.phase = .empty) (carried : t.fa.carried = s.fa.carried) : t.ClaimsOk where
  bounded z := by
    rw [State.assignedSum, cfg, published]
    exact (sum_helios_le fun i => (each i).assignedShare_le s.cfg z).trans (ok.bounded z)
  placed i := (each i).placed (ok.placed i)
  candidates i := (each i).candidates (ok.candidates i)
  carried := by
    rw [CarriedOk, phase, carried]
    refine ⟨fun empty i => ?_, fun full z => ?_⟩
    · refine Option.eq_none_iff_forall_not_mem.2 fun ap e => ?_
      have before := ((each i).deferred ap e).1
      rw [ok.carried.1 empty i] at before
      cases before
    · rw [State.claimSum, cfg]
      exact (sum_helios_le fun i => Nat.add_le_add ((each i).assignedShare_le s.cfg z)
        ((each i).deferredShare_le s.cfg z)).trans (ok.carried.2 (full ∘ phase.2) z)

theorem sum_helios_eq_zero {v : Vector Helio 8} {f : Helio → Nat} (h : ∀ i : Fin 8, f v[i] = 0) : (v.toList.map f).sum = 0 := by
  rw [sum_helios]
  exact List.sum_eq_zero (by simpa using h)

/-- A heliostat that is not assigned claims nothing by assignment. -/
theorem assignedShare_of_unassigned {h : Helio} (unassigned : h.assignment = none) (cfg : StationConfig) (z : Nat) :
    assignedShare cfg z h = 0 := by
  rw [assignedShare, unassigned]
  rfl

theorem deferredShare_of_undeferred {h : Helio} (undeferred : h.deferred = none) (cfg : StationConfig) (z : Nat) :
    deferredShare cfg z h = 0 := by
  rw [deferredShare, undeferred]
  rfl

/-- Where nothing is assigned and nothing deferred, nothing is claimed. -/
theorem State.ClaimsOk.of_unassigned {s : State} (placed : ∀ i : Fin 8, s.helios[i].Placed)
    (unassigned : ∀ i : Fin 8, s.helios[i].assignment = none) (undeferred : ∀ i : Fin 8, s.helios[i].deferred = none) :
    s.ClaimsOk where
  bounded z := by
    rw [State.assignedSum, sum_helios_eq_zero fun i => assignedShare_of_unassigned (unassigned i) _ _]
    exact Nat.zero_le _
  placed := placed
  candidates i := by
    rw [unassigned i, undeferred i]
    exact ⟨nofun, nofun⟩
  carried := by
    refine ⟨fun _ => undeferred, fun _ z => ?_⟩
    rw [State.claimSum, sum_helios_eq_zero fun i => by
      rw [assignedShare_of_unassigned (unassigned i), deferredShare_of_undeferred (undeferred i)]]
    exact Nat.zero_le _

/-! ## One state after another -/

/-- From one state to another the planning irradiance stays in its bounds and the claims within theirs. -/
structure State.ClaimsKept (s t : State) : Prop where
  irradiance : IrradianceOk s → IrradianceOk t
  claims : s.ClaimsOk → t.ClaimsOk

/-- And the interest set is still that of the records. -/
structure State.InterestKept (s t : State) : Prop extends State.ClaimsKept s t where
  interest : InterestOk s → InterestOk t

/-- And in NIGHT the NIGHT source is still set. -/
structure State.FluxKept (s t : State) : Prop extends State.InterestKept s t where
  night : NightOk s → NightOk t

/-- What the claims, the interest set, the NIGHT source and the planning irradiance rest on, beside the heliostats. -/
def State.fluxView (s : State) :
    StationConfig × List Nat × (Nat × Nat) × Bool × (List PlanItem × List PlanItem) × StationState :=
  (s.cfg, s.interest, (s.irm.m, s.irm.h), decide (s.bi.tx.phase = .empty), (s.fa.plan, s.fa.carried), s.sc.state)

variable {s t u : State}

protected theorem State.ClaimsKept.trans (a : State.ClaimsKept s t) (b : State.ClaimsKept t u) : State.ClaimsKept s u :=
  ⟨b.irradiance ∘ a.irradiance, b.claims ∘ a.claims⟩

/-- An operation on the heliostats by which each adds nothing to its claims. -/
theorem State.ClaimsKept.of_yields (same : t.fluxView = s.fluxView)
    (each : ∀ i : Fin 8, Helio.Yields s.helios[i] t.helios[i]) : State.ClaimsKept s t := by
  simp only [State.fluxView, Prod.mk.injEq] at same
  obtain ⟨cfg, -, ⟨m, h⟩, phase, ⟨plan, carried⟩, state⟩ := same
  refine ⟨fun ok => ?_, fun ok => ok.of_yields cfg each ?_ (decide_eq_decide.1 phase) carried⟩
  · rw [IrradianceOk, state, cfg, m, h]
    exact ok
  · funext z
    rw [State.published, State.published, plan]

namespace State.InterestKept

protected theorem trans (a : State.InterestKept s t) (b : State.InterestKept t u) : State.InterestKept s u :=
  ⟨a.toClaimsKept.trans b.toClaimsKept, b.interest ∘ a.interest⟩

/-- One by which besides each stays in service or out of it. -/
theorem of_serves (same : t.fluxView = s.fluxView) (each : ∀ i : Fin 8, Helio.Serves s.helios[i] t.helios[i]) :
    State.InterestKept s t := by
  refine ⟨.of_yields same fun i => (each i).toYields, fun ok => ?_⟩
  simp only [State.fluxView, Prod.mk.injEq] at same
  obtain ⟨cfg, interest, -, -, -, state⟩ := same
  rw [InterestOk, state, interest, State.interestZones_congr cfg fun i => ⟨(each i).cfg, (each i).inService⟩]
  exact ok

theorem setSources (s : State) (f : Sources → Sources) : State.InterestKept s (s.setSources f) :=
  of_serves rfl fun i => by
    rw [Fin.getElem_fin, Fin.getElem_fin, State.setSources_helio]
    exact .reengage ..

end State.InterestKept

namespace State.FluxKept

/-- An operation on the heliostats that leaves the NIGHT source. -/
theorem of_serves (same : t.fluxView = s.fluxView) (night : t.src.stowNight = s.src.stowNight)
    (each : ∀ i : Fin 8, Helio.Serves s.helios[i] t.helios[i]) : State.FluxKept s t := by
  refine ⟨.of_serves same each, fun ok => ?_⟩
  simp only [State.fluxView, Prod.mk.injEq] at same
  obtain ⟨-, -, -, -, -, state⟩ := same
  rw [NightOk, state, night]
  exact ok

/-- An operation on other registers alone. -/
theorem of_same (same : t.fluxView = s.fluxView) (night : t.src.stowNight = s.src.stowNight)
    (helios : t.helios = s.helios) : State.FluxKept s t :=
  of_serves same night fun _ => helios ▸ .refl _

protected theorem refl (s : State) : State.FluxKept s s := of_same rfl rfl rfl

protected theorem trans (a : State.FluxKept s t) (b : State.FluxKept t u) : State.FluxKept s u :=
  ⟨a.toInterestKept.trans b.toInterestKept, b.night ∘ a.night⟩

/-! ## Shared operations -/

/-- What the Alert Unit sees of a change is no part of it. -/
theorem observed (s : State) (f : State → State) : State.FluxKept (f s) (s.change f) := by
  rw [State.change_eq]
  exact of_same rfl rfl rfl

theorem change {f : State → State} (k : State.FluxKept s (f s)) : State.FluxKept s (s.change f) := k.trans (observed s f)

theorem ifRunning {f : State → State} (k : s.running = true → State.FluxKept s (f s)) :
    State.FluxKept s (s.ifRunning f) := by
  simp only [State.ifRunning]
  split
  · exact k ‹_›
  · exact .refl s

theorem updateHelio (i : Fin 8) {f : Helio → Helio} (k : Helio.Serves s.helios[i] (f s.helios[i])) :
    State.FluxKept s (s.updateHelio i f) := by
  refine of_serves rfl rfl fun j => ?_
  by_cases here : j = i
  · subst here
    rw [State.updateHelio_self]
    exact k.trans (.reengage ..)
  · rw [State.updateHelio_other _ _ _ _ here]
    exact .refl _

/-- One heliostat replaced, its level left as it is. -/
theorem setHelio (s : State) (i : Fin 8) {h : Helio} (k : Helio.Serves s.helios[i] h) :
    State.FluxKept s { s with helios := s.helios.set i h } := by
  refine of_serves rfl rfl fun j => ?_
  by_cases here : j = i
  · subst here
    rw [set_helio_self]
    exact k
  · rw [set_helio_other _ _ _ _ here]
    exact .refl _

theorem setSources (s : State) (f : Sources → Sources) (night : (f s.src).stowNight = s.src.stowNight) :
    State.FluxKept s (s.setSources f) := by
  refine ⟨.setSources s f, fun ok => ?_⟩
  rw [NightOk, State.setSources_src, night]
  exact ok

theorem count (s : State) (f : Counters → Counters) : State.FluxKept s (s.count f) := of_same rfl rfl rfl

theorem answer (s : State) (k hf : Byte) (r : Result) : State.FluxKept s (s.answer k hf r) := by
  have tx : (s.answer k hf r).bi.tx = s.bi.tx := by rw [(s.answer_spec k hf r).1]
  exact of_same (by simp [State.fluxView, tx]) rfl rfl

theorem takeCommand {k hf : Byte} {f : State → Result × State} (h : State.FluxKept s (f s).2) :
    State.FluxKept s (s.takeCommand k hf f) :=
  (change (f := fun s => (f s).2) h).trans (answer ..)

/-- R101, R175: a frame that ends otherwise than by completion leaves nothing deferred. -/
theorem discardFrame (s : State) : State.FluxKept s s.discardFrame := by
  have each : ∀ i : Fin 8, Helio.Serves s.helios[i] s.discardFrame.helios[i] := fun i => by
    rw [Fin.getElem_fin, Fin.getElem_fin, State.discardFrame_helio]
    exact .emptied _
  refine ⟨⟨⟨id, fun ok => ⟨fun z => ?_, fun i => (each i).placed (ok.placed i), fun i => ?_, ?_⟩⟩, fun ok => ?_⟩, id⟩
  · exact (sum_helios_le fun i => (each i).assignedShare_le s.cfg z).trans (ok.bounded z)
  · exact (each i).candidates (ok.candidates i)
  · refine ⟨fun _ i => ?_, fun full => absurd rfl full⟩
    rw [Fin.getElem_fin, State.discardFrame_helio]
  · rw [InterestOk, State.interestZones_congr (s := s) (t := s.discardFrame) rfl fun i => ⟨(each i).cfg, (each i).inService⟩]
    exact ok

theorem cutFrame (s : State) : State.FluxKept s s.cutFrame := by
  obtain ⟨-, e⟩ | ⟨-, e⟩ | ⟨-, e⟩ := s.cutFrame_cases <;> rw [e]
  · exact .refl s
  · exact discardFrame s
  · exact (discardFrame s).trans (of_same rfl rfl rfl)

end State.FluxKept

/-! ## Changes of the station state (R161, R185 to R191) -/

theorem IrradianceMonitor.follow_values (irm : IrradianceMonitor) (old new : StationState) :
    (irm.follow old new).m = irm.m ∧ (irm.follow old new).h = irm.h := by
  simp only [IrradianceMonitor.follow]
  split_ifs <;> exact ⟨rfl, rfl⟩

theorem State.cutFrame_src (s : State) : s.cutFrame.src = s.src := by
  obtain ⟨-, e⟩ | ⟨-, e⟩ | ⟨-, e⟩ := s.cutFrame_cases <;> rw [e] <;> rfl

theorem State.toState_src (s : State) (new : StationState) : (s.toState new).src = s.src := by
  simp only [State.toState]
  split
  · rfl
  · rw [State.cutFrame_src]

/-- A change among the states that follow a load. -/
theorem State.InterestKept.toState {new : StationState} (loaded : s.sc.state.loaded = true) :
    State.InterestKept s (s.toState new) := by
  obtain ⟨m, h⟩ := s.irm.follow_values s.sc.state new
  have moved : State.InterestKept s { s with sc := { s.sc with state := new }, irm := s.irm.follow s.sc.state new } := by
    refine ⟨⟨fun ok _ => ?_, fun ok => ok.of_yields rfl (fun _ => (Helio.Serves.refl _).toYields) rfl Iff.rfl rfl⟩,
      fun ok _ => ok loaded⟩
    rw [m, h]
    exact ok loaded
  simp only [State.toState]
  split
  · exact moved
  · exact moved.trans (State.FluxKept.cutFrame _).toInterestKept

namespace State.FluxKept

theorem toState {new : StationState} (loaded : s.sc.state.loaded = true) (day : new ≠ .night) :
    State.FluxKept s (s.toState new) :=
  ⟨.toState loaded, fun _ night => absurd ((State.toState_state s new).symm.trans night) day⟩

theorem withSc (s : State) (sc : StationController) (state : sc.state = s.sc.state) :
    State.FluxKept s { s with sc := sc } := of_same (by simp [State.fluxView, state]) rfl rfl

theorem becomeSilent (loaded : s.sc.state.loaded = true) : State.FluxKept s s.becomeSilent := by
  simp only [State.becomeSilent]
  refine (toState (new := .silent) loaded nofun).trans ?_
  generalize s.toState .silent = t
  exact (withSc t { t.sc with isoCount := 0 } rfl).trans (setSources _ _ rfl)

theorem becomeIsolated (loaded : s.sc.state.loaded = true) : State.FluxKept s s.becomeIsolated := by
  simp only [State.becomeIsolated]
  refine (toState (new := .isolated) loaded nofun).trans ?_
  generalize s.toState .isolated = t
  exact (withSc t { t.sc with isoCount := 0 } rfl).trans (setSources _ _ rfl)

/-- R189: NIGHT is entered with its source. -/
theorem becomeNight (loaded : s.sc.state.loaded = true) : State.FluxKept s s.becomeNight :=
  ⟨(State.InterestKept.toState loaded).trans (.setSources _ _), fun _ _ => rfl⟩

/-- R188: ISOLATED is left for NIGHT where the NIGHT source is set. -/
theorem leaveIsolated (loaded : s.sc.state.loaded = true) : State.FluxKept s s.leaveIsolated := by
  refine ⟨(State.InterestKept.toState loaded).trans (.setSources _ _), fun _ night => ?_⟩
  have state := s.toState_state (if s.src.stowNight then .night else .operating)
  show (s.toState (if s.src.stowNight then .night else .operating)).src.stowNight = true
  rw [State.toState_src]
  by_contra day
  rw [if_neg day] at state
  simp only [State.leaveIsolated, if_neg day] at night
  exact absurd (state.symm.trans night) nofun

end State.FluxKept
end Sys2Proof.Machine
end

section
/-! Chapter 9 through the command entries, the resets and the frames (R159, R177). -/

namespace Sys2Proof.Machine

/-! ## The interest set follows its records (R12, R13) -/

/-- R13: a followed plan still holds every published value. -/
theorem plannedFor_followPlan (plan : List PlanItem) (zones : List Nat) (z : Nat) :
    plannedFor (followPlan plan zones) z = plannedFor plan z := by
  simp only [plannedFor, itemFor_followPlan]
  cases itemFor plan z with
  | some i => rfl
  | none => dsimp only; split_ifs <;> rfl

variable {s t u : State}

namespace State.ClaimsKept

/-- One heliostat that adds nothing to its claims, and its level with it. -/
theorem updateHelio (s : State) (i : Fin 8) {f : Helio → Helio} (y : Helio.Yields s.helios[i] (f s.helios[i])) :
    State.ClaimsKept s (s.updateHelio i f) := by
  refine .of_yields rfl fun j => ?_
  by_cases here : j = i
  · subst here
    rw [State.updateHelio_self]
    exact y.trans (Helio.Serves.reengage ..).toYields
  · rw [State.updateHelio_other _ _ _ _ here]
    exact (Helio.Serves.refl _).toYields

theorem change {f : State → State} (k : State.ClaimsKept s (f s)) : State.ClaimsKept s (s.change f) :=
  k.trans (State.FluxKept.observed s f).toClaimsKept

theorem recomputeInterest (s : State) : State.ClaimsKept s s.recomputeInterest :=
  ⟨id, fun ok => ok.of_yields rfl (fun _ => (Helio.Serves.refl _).toYields)
    (funext fun _ => plannedFor_followPlan ..) Iff.rfl rfl⟩

end State.ClaimsKept

namespace State.FluxKept

/-- R12: the interest set recomputed where a heliostat has entered or left service. -/
theorem recomputeInterest (k : State.ClaimsKept s t) (state : t.sc.state = s.sc.state)
    (night : t.src.stowNight = s.src.stowNight) : State.FluxKept s t.recomputeInterest := by
  refine ⟨⟨k.trans (.recomputeInterest t), fun _ _ => rfl⟩, fun ok => ?_⟩
  show t.sc.state = .night → t.src.stowNight = true
  rw [state, night]
  exact ok

/-- A reset ends every placement, and no load has passed after it. -/
theorem of_reset (unloaded : t.sc.state.loaded = false)
    (cleared : ∀ i : Fin 8, t.helios[i].engaged = .none ∧ t.helios[i].snapshot = none ∧
      t.helios[i].assignment = none ∧ t.helios[i].deferred = none) : State.FluxKept s t := by
  have absent {p : Prop} (loaded : t.sc.state.loaded = true) : p := by
    rw [unloaded] at loaded
    cases loaded
  refine ⟨⟨⟨fun _ => absent, fun _ => .of_unassigned (fun i => ?_) (fun i => ?_) fun i => ?_⟩, fun _ => absent⟩,
    fun _ night => absent (by rw [night]; rfl)⟩
  all_goals obtain ⟨engaged, snapshot, unassigned, undeferred⟩ := cleared i
  · constructor
    · rw [unassigned]
      exact nofun
    · rw [undeferred]
      exact nofun
    · rw [snapshot, engaged]
      exact ⟨nofun, nofun⟩
  · exact unassigned
  · exact undeferred

/-! ## Command entries -/

theorem stationWide {f : State → Result × State} (hf : Byte) (k : State.FluxKept s (f s).2) :
    State.FluxKept s (stationWide hf f s).2 := by
  simp only [Machine.stationWide]
  split
  · exact k
  · exact .refl s

theorem stowField (s : State) : State.FluxKept s (stowFieldEffect s).2 := by
  simp only [stowFieldEffect]
  exact setSources _ _ rfl

theorem standbySet (s : State) : State.FluxKept s (standbySetEffect s).2 := by
  simp only [standbySetEffect]
  exact setSources _ _ rfl

theorem stowRelease (s : State) : State.FluxKept s (stowReleaseEffect s).2 := by
  simp only [stowReleaseEffect]
  split_ifs <;> dsimp only
  · exact setSources s _ rfl
  · exact .refl s
  · exact setSources s _ rfl
  · exact .refl s

theorem standbyClear (s : State) : State.FluxKept s (standbyClearEffect s).2 := by
  simp only [standbyClearEffect]
  split <;> dsimp only
  · exact setSources _ _ rfl
  · exact .refl s

theorem hold (hf : Byte) (t : Steps) (s : State) : State.FluxKept s (holdEffect hf t s).2 := by
  simp only [holdEffect]
  split
  · exact .refl s
  · split <;> dsimp only
    · exact .refl s
    · exact updateHelio _ (.takeHold ..)

theorem holdRelease (hf : Byte) (s : State) : State.FluxKept s (holdReleaseEffect hf s).2 := by
  simp only [holdReleaseEffect]
  split
  · exact .refl s
  · split <;> dsimp only
    · exact .refl s
    · exact updateHelio _ (.of_view rfl)

theorem serviceOut (hf : Byte) (s : State) : State.FluxKept s (serviceOutEffect hf s).2 := by
  simp only [serviceOutEffect]
  split
  · exact .refl s
  · split
    · exact recomputeInterest (.updateHelio _ _ (.takeOut _)) rfl rfl
    · exact .refl s

theorem serviceIn (hf : Byte) (s : State) : State.FluxKept s (serviceInEffect hf s).2 := by
  simp only [serviceInEffect]
  split
  · exact .refl s
  · rename_i i _
    split_ifs
    · exact .refl s
    · exact .refl s
    · have entered : State.ClaimsKept s (s.change fun s => s.updateHelio i Helio.takeIn) :=
        .change (.updateHelio _ _ (.takeIn _))
      exact recomputeInterest (entered.trans (.change (.updateHelio _ _ (Helio.Serves.homingStart _).toYields)))
        (by simp) (by simp [State.change_src])

theorem correct (hf : Byte) (x y : Int) (s : State) : State.FluxKept s (correctEffect hf x y s).2 := by
  simp only [correctEffect]
  split
  · exact .refl s
  · split
    · exact setHelio _ _ (.of_view rfl)
    · exact .refl s

theorem rehomeOne (s : State) (i : Fin 8) : State.FluxKept s (s.rehomeOne i) := by
  simp only [State.rehomeOne]
  split
  · exact updateHelio i (.rehome _)
  · exact .refl s

theorem rehomeAll (s : State) : State.FluxKept s s.rehomeAll :=
  List.foldlRecOn (motive := State.FluxKept s) _ _ (.refl s) fun _ k i _ => k.trans (rehomeOne _ i)

theorem rehome (hf : Byte) (s : State) : State.FluxKept s (rehomeEffect hf s).2 := by
  simp only [rehomeEffect]
  split
  · dsimp only
    exact rehomeAll s
  · split
    · exact .refl s
    · split <;> dsimp only
      · exact .refl s
      · exact updateHelio _ (.rehome _)

theorem activateCode (s : State) : State.FluxKept s s.activateCode := by
  simp only [State.activateCode]
  split
  · exact .refl s
  · exact .trans (t := { s with dcu := { s.dcu with active := true } }) (of_same rfl rfl rfl) (setSources _ _ rfl)

theorem releaseCode (s : State) : State.FluxKept s s.releaseCode := by
  simp only [State.releaseCode]
  split
  · exact .trans (t := { s with dcu := { s.dcu with active := false } }) (of_same rfl rfl rfl) (setSources _ _ rfl)
  · exact .refl s

theorem defocusRelease (s : State) : State.FluxKept s (defocusReleaseEffect s).2 := by
  simp only [defocusReleaseEffect]
  split_ifs
  · exact .refl s
  · exact releaseCode s
  · exact .refl s

theorem clearAlerts (s : State) : State.FluxKept s (clearAlertsEffect s).2 := of_same rfl rfl rfl

theorem clearSticky (s : State) : State.FluxKept s (clearStickyEffect s).2 :=
  of_serves rfl rfl fun i => by
    simp only [clearStickyEffect, Fin.getElem_fin, getElem_mapEach]
    exact .of_view rfl

theorem report (hf : Byte) (s : State) : State.FluxKept s (reportEffect hf s).2 := by
  simp only [reportEffect]
  repeat' split
  · exact of_same rfl rfl rfl
  · exact .refl s
  · exact of_same rfl rfl rfl

/-! ## Resets (R192 to R194) -/

theorem softReset (s : State) : State.FluxKept s s.softReset :=
  of_reset rfl fun i => by
    simp only [State.softReset, State.sampleStraps, Fin.getElem_fin, getElem_mapEach]
    exact ⟨rfl, rfl, rfl, rfl⟩

theorem hardReset (s : State) : State.FluxKept s s.hardReset :=
  of_reset rfl fun i => by
    simp only [State.hardReset, Fin.getElem_fin, getElem_mapEach]
    exact ⟨rfl, rfl, rfl, rfl⟩

theorem loadIfReleased (k : State.FluxKept s t) : State.FluxKept s (s.loadIfReleased t) := by
  rw [State.loadIfReleased_eq]
  exact k.trans (withSc _ _ rfl)

theorem powerOnReset (inForce : Bool) (s : State) : State.FluxKept s (s.powerOnReset inForce) := by
  simp only [State.powerOnReset]
  split
  · exact (withSc s { s.sc with inPowerOn := true, por := true } rfl).trans (hardReset _)
  · exact loadIfReleased (withSc s _ rfl)

theorem resetPin (active : Bool) (s : State) : State.FluxKept s (s.resetPin active) := by
  simp only [State.resetPin]
  split
  · exact (withSc s { s.sc with inResetn := true } rfl).trans (hardReset _)
  · exact loadIfReleased (withSc s _ rfl)

theorem restart (hf : Byte) (s : State) : State.FluxKept s (s.restart hf) := by
  simp only [State.restart]
  split
  · exact (answer ..).trans (softReset _)
  · exact answer ..

/-! ## Entries of a COMMAND frame and frames (R90 to R94, R102) -/

theorem takeEntry (s : State) (e : CommandEntry) : State.FluxKept s (s.takeEntry e) := by
  simp only [State.takeEntry]
  split
  · exact takeCommand (stationWide _ (stowField _))
  · exact takeCommand (stationWide _ (stowRelease _))
  · exact takeCommand (stationWide _ (standbySet _))
  · exact takeCommand (stationWide _ (standbyClear _))
  · exact takeCommand (hold ..)
  · exact takeCommand (holdRelease ..)
  · exact takeCommand (serviceOut ..)
  · exact takeCommand (serviceIn ..)
  · exact takeCommand (correct ..)
  · exact takeCommand (rehome ..)
  · exact takeCommand (stationWide _ (defocusRelease _))
  · exact takeCommand (stationWide _ (clearAlerts _))
  · exact takeCommand (stationWide _ (clearSticky _))
  · exact takeCommand (report ..)
  · exact restart ..
  · exact answer ..

theorem takeEntries (s : State) (es : List CommandEntry) : State.FluxKept s (s.takeEntries es) := by
  induction es generalizing s with
  | nil => exact .refl s
  | cons e rest ih =>
    simp only [State.takeEntries]
    split_ifs
    · exact takeEntry s e
    · exact (takeEntry s e).trans (ih _)
    · exact ih s

theorem takeReceiver (st : Byte) (zones : List ZoneReading) (s : State) : State.FluxKept s (s.takeReceiver st zones) := by
  simp only [State.takeReceiver]
  split
  · exact .refl s
  · rename_i x _
    generalize (some { state := x, zones := _, epoch := _ } : Option RxRecord) = rec
    exact .trans (t := { s with rs := { s.rs with receiver := rec } }) (of_same rfl rfl rfl)
      (setSources _ _ (by cases x <;> rfl))

theorem lookUpPeer (station : Nat) (items : List PlanItem) (s : State) :
    State.FluxKept s (s.lookUpPeer station items) := by
  obtain ⟨w, -, -, e⟩ | ⟨w, -, -, e⟩ | ⟨-, -, e⟩ | ⟨-, -, e⟩ := s.lookUpPeer_cases station items <;> rw [e]
  · exact of_same rfl rfl rfl
  · exact of_same rfl rfl rfl
  · exact .refl s
  · rw [State.evict_frame]
    exact of_same rfl rfl rfl

theorem hearOwnNumber (s : State) : State.FluxKept s s.hearOwnNumber := by
  have heard : State.FluxKept s { s with bi := { s.bi with heardOwnSlot := true } } := of_same rfl rfl rfl
  simp only [State.hearOwnNumber]
  split
  · rename_i h
    refine heard.trans (becomeSilent ?_)
    revert h
    cases e : s.sc.state <;> simp [StationState.sends, StationState.loaded, State.listensFromNow, e]
  · exact heard

theorem takeFrame (slot : Nat) (body : FrameBody) (s : State) : State.FluxKept s (s.takeFrame slot body) := by
  have heard : State.FluxKept s (s.change State.hear) := change (of_same rfl rfl rfl)
  cases body <;> simp only [State.takeFrame]
  case sun => exact heard.trans (of_same rfl rfl rfl)
  case receiver => exact heard.trans (change (takeReceiver ..))
  case command es => exact heard.trans (takeEntries ..)
  case contribution =>
    split
    · exact heard.trans (change (hearOwnNumber _))
    · exact heard.trans (change (lookUpPeer ..))

theorem receiveBody (slot : Nat) (body : FrameBody) (s : State) : State.FluxKept s (s.receiveBody slot body) := by
  simp only [State.receiveBody]
  repeat' split
  · exact count ..
  · exact takeFrame ..
  · exact .refl s

theorem receiveRaw (raw : RawFrame) (s : State) : State.FluxKept s (s.receiveRaw raw) := by
  simp only [State.receiveRaw]
  repeat' split
  · exact count ..
  · exact takeFrame ..
  · exact .refl s

/-! ## The own frame (R95 to R97) -/

theorem frameStart (s : State) : State.FluxKept s s.frameStart := by
  simp only [State.frameStart]
  split_ifs with built
  · exact of_same (by simp [State.fluxView, State.beginSending, built]) rfl rfl
  · exact cutFrame s
  · exact .refl s

theorem echoAbort (s : State) : State.FluxKept s s.echoAbort := (cutFrame s).trans (of_same rfl rfl rfl)

end State.FluxKept
end Sys2Proof.Machine
end

section
/-! Chapter 9 through the ticks, the epochs, the pins and one microsecond (R159, R177, R189, R190). -/

namespace Sys2Proof.Machine

variable {s t u : State}

/-- R118, R190: the dawn takes the station from NIGHT to OPERATING. -/
theorem State.InterestKept.dawn (night : s.sc.state = .night) : State.InterestKept s s.dawn := by
  have counted : State.FluxKept s { s with rs := { s.rs with nightCount := 0 } } := .of_same rfl rfl rfl
  simp only [State.dawn]
  refine counted.toInterestKept.trans ?_
  clear counted
  have still : ({ s with rs := { s.rs with nightCount := 0 } } : State).sc.state = .night := night
  generalize ({ s with rs := { s.rs with nightCount := 0 } } : State) = t at still
  have observed (t : State) (f : State → State) : State.InterestKept (f t) (t.change f) :=
    (State.FluxKept.observed t f).toInterestKept
  have rehomed : State.FluxKept t t.dawnRehome := by
    simp only [State.dawnRehome]
    split
    · exact .rehomeAll t
    · exact .refl t
  refine ((State.FluxKept.change rehomed).toInterestKept).trans
    (((State.InterestKept.setSources _ _).trans (observed _ fun s => s.setSources _)).trans
      ((State.InterestKept.toState ?_).trans (observed _ fun s => s.toState _)))
  simp [State.dawnRehome_sc, still, StationState.loaded]

namespace State.FluxKept

/-! ## Turns and aim ticks (R19 to R22, R116, R118) -/

theorem takeTurns (sun : Vec3) (l : List (Fin 8)) (s : State) : State.FluxKept s (s.takeTurns sun l) := by
  induction l generalizing s with
  | nil => exact .refl s
  | cons i rest ih => exact (change (f := fun s => s.takeTurn sun i) (updateHelio i (.turn ..))).trans (ih _)

theorem continueTick (p : TickProgress) (stop : Nat) (s : State) : State.FluxKept s (s.continueTick p stop) := by
  simp only [State.continueTick]
  exact (takeTurns ..).trans (of_same rfl rfl rfl)

theorem finishTick (s : State) : State.FluxKept s s.finishTick := by
  simp only [State.finishTick]
  split
  · exact continueTick ..
  · exact .refl s

theorem updateSunSource (lost : Bool) (s : State) : State.FluxKept s (s.updateSunSource lost) := by
  simp only [State.updateSunSource]
  split
  · exact .refl s
  · exact setSources _ _ rfl

theorem dawn (night : s.sc.state = .night) : State.FluxKept s s.dawn := by
  refine ⟨.dawn night, fun _ still => ?_⟩
  have operating : s.dawn.sc.state = .operating := by simp [State.dawn, State.toState_state]
  rw [operating] at still
  cases still

theorem beginTurns (sun : Vec3) (stop : Nat) (s : State) : State.FluxKept s (s.beginTurns sun stop) := by
  simp only [State.beginTurns]
  split
  · exact continueTick ..
  · exact .refl s

theorem evaluateTick (sun : Option Vec3) (stop : Nat) (s : State) : State.FluxKept s (s.evaluateTick sun stop) := by
  have told : State.FluxKept s (s.change fun s => s.updateSunSource sun.isNone) := change (updateSunSource ..)
  simp only [State.evaluateTick]
  generalize (s.change fun s => s.updateSunSource sun.isNone) = t at told
  split
  · exact told
  · split
    · rename_i met
      simp only [State.dawnMet, Bool.and_eq_true, beq_iff_eq] at met
      exact told.trans ((dawn met.1).trans (beginTurns ..))
    · exact told.trans (beginTurns ..)

theorem startTick (offset stop : Nat) (s : State) : State.FluxKept s (s.startTick offset stop) := by
  simp only [State.startTick]
  split
  · exact .trans (t := s.tickTaken offset) (of_same rfl rfl rfl) (evaluateTick ..)
  · exact .refl s

theorem aimTick (offset stop : Nat) (s : State) : State.FluxKept s (s.aimTick offset stop) := by
  simp only [State.aimTick]
  repeat' split
  · exact continueTick ..
  · exact startTick ..
  · exact .refl s

/-! ## The tests of the Station Controller (R185 to R191) -/

theorem storeIsoCount (s : State) : State.FluxKept s s.storeIsoCount := withSc s _ rfl

theorem enterNight (decided : s.nightDecided = true) : State.FluxKept s s.storeIsoCount.becomeNight := by
  have operating := State.Kept.nightDecided_state decided
  exact (storeIsoCount s).trans (becomeNight (by simp [State.storeIsoCount, operating, StationState.loaded]))

theorem otherwiseDecided (s : State) : State.FluxKept s s.otherwiseDecided := by
  simp only [State.otherwiseDecided]
  split
  · rename_i syncing
    split
    · exact (withSc s { s.sc with listen := false } rfl).trans
        (toState (by simp [syncing, StationState.loaded]) nofun)
    · exact withSc s _ rfl
  · exact storeIsoCount s
  · exact storeIsoCount s
  · rename_i isolated
    split
    · exact leaveIsolated (by simp [isolated, StationState.loaded])
    · exact .refl s
  all_goals exact .refl s

theorem stationTests (s : State) : State.FluxKept s s.stationTests := by
  simp only [State.stationTests]
  split_ifs with silent isolated night
  · exact becomeSilent (State.Kept.silentDecided_loaded silent)
  · exact becomeIsolated (State.Kept.isolatedDecided_state isolated).1
  · exact enterNight night
  · exact otherwiseDecided s

/-! ## Slots and epochs (R87 to R100) -/

theorem busLostTest (s : State) : State.FluxKept s s.busLostTest := by
  simp only [State.busLostTest]
  split
  · exact of_same rfl rfl rfl
  · exact .refl s

theorem countSlot (s : State) : State.FluxKept s s.countSlot :=
  .trans (t := { s with bi := { s.bi with quietSlots := min (s.bi.quietSlots + 1) 400 } }) (of_same rfl rfl rfl)
    (busLostTest _)

theorem settleOwnSlot (s : State) : State.FluxKept s s.settleOwnSlot := by
  simp only [State.settleOwnSlot]
  split
  · exact of_same rfl rfl rfl
  · exact .refl s

theorem startSlot (slot : Nat) (s : State) : State.FluxKept s (s.startSlot slot) := by
  have entered : State.FluxKept s ({ s with bi := s.bi.enterSlot slot } : State).settleOwnSlot := by
    refine .trans ?_ (settleOwnSlot _)
    exact of_same rfl rfl rfl
  simp only [State.startSlot]
  generalize ({ s with bi := s.bi.enterSlot slot } : State).settleOwnSlot = t at entered
  have counted : State.FluxKept t (t.change State.countSlot) := change (countSlot t)
  generalize t.change State.countSlot = u at counted
  split_ifs
  · exact entered.trans (counted.trans (of_same rfl rfl rfl))
  · exact entered.trans counted
  · exact entered

theorem rxStaleTest (s : State) : State.FluxKept s s.rxStaleTest := by
  simp only [State.rxStaleTest]
  split
  · exact .trans (t := { s with rs := { s.rs with receiver := none } }) (of_same rfl rfl rfl) (setSources _ _ rfl)
  · exact .refl s

theorem handEpoch (s : State) : State.FluxKept s s.handEpoch := by
  have counted : State.FluxKept s (s.change State.countSlot) := change (countSlot s)
  simp only [State.handEpoch]
  generalize s.change State.countSlot = t at counted
  refine counted.trans (.trans (t := ({ t with bi := t.bi.settleRun } : State).expireSuns) (of_same rfl rfl rfl) ?_)
  generalize ({ t with bi := t.bi.settleRun } : State).expireSuns = u
  exact (change (rxStaleTest u)).trans (of_same rfl rfl rfl)

theorem epochStartTick (first : Bool) (s : State) : State.FluxKept s (s.epochStartTick first) := by
  have left : State.FluxKept s s.leaveTickDue := of_same rfl rfl rfl
  simp only [State.epochStartTick]
  split
  · exact left.trans (startTick ..)
  · exact left

theorem testEpoch (s : State) : State.FluxKept s s.testEpoch := (change (stationTests s)).trans (of_same rfl rfl rfl)

theorem makeEpochStart (first : Bool) (s : State) : State.FluxKept s (s.makeEpochStart first) := by
  have scheduled : State.FluxKept s s.scheduleTicks := of_same rfl rfl rfl
  simp only [State.makeEpochStart]
  split
  · exact scheduled.trans ((finishTick _).trans ((handEpoch _).trans ((epochStartTick ..).trans (testEpoch _))))
  · exact scheduled

theorem wrap (first : Bool) (s : State) : State.FluxKept s (s.wrap first) := by
  simp only [State.wrap]
  refine (settleOwnSlot s).trans ?_
  generalize s.settleOwnSlot = t
  exact .trans (t := { t with bi := { t.bi.newEpoch with markWindow := true } }) (of_same rfl rfl rfl)
    (makeEpochStart ..)

theorem markEpoch (first : Bool) (s : State) : State.FluxKept s (s.markEpoch first) := by
  simp only [State.markEpoch]
  refine (cutFrame s).trans ((settleOwnSlot _).trans ?_)
  generalize s.cutFrame.settleOwnSlot = t
  exact .trans (t := { t with bi := { t.bi.newEpoch with timerInstant := t.bi.timerInstant.cutDue } })
    (of_same rfl rfl rfl) ((count ..).trans (makeEpochStart ..))

theorem timeMark (first : Bool) (s : State) : State.FluxKept s (s.timeMark first) := by
  have marked : State.FluxKept s (s.change fun s => { s with bi := s.bi.marked }) := change (of_same rfl rfl rfl)
  simp only [State.timeMark]
  generalize (s.change fun s => { s with bi := s.bi.marked }) = t at marked
  split
  · exact marked.trans (of_same rfl rfl rfl)
  · exact marked.trans (markEpoch ..)

theorem markLostTest (s : State) : State.FluxKept s s.markLostTest := by
  simp only [State.markLostTest]
  split
  · exact of_same rfl rfl rfl
  · exact .refl s

theorem closeWindow (s : State) : State.FluxKept s s.closeWindow := by
  simp only [State.closeWindow]
  split
  · exact .trans (t := { s with bi := { s.bi with markWindow := false, missedMarks := min (s.bi.missedMarks + 1) 4 } })
      (of_same rfl rfl rfl) (change (markLostTest _))
  · exact .refl s

theorem unlessReset {f : State → State} (k : State.FluxKept s (f s)) : State.FluxKept s (s.unlessReset f) := by
  simp only [State.unlessReset]
  split
  · exact .refl s
  · exact k

theorem unlessCut {f : State → State} (k : State.FluxKept s (f s)) : State.FluxKept s (s.unlessCut f) := by
  simp only [State.unlessCut]
  split
  · exact .refl s
  · exact unlessReset k

/-! ## The defocus code and the pins (R127 to R136) -/

theorem receiveBit (first bit : Bool) (s : State) : State.FluxKept s (s.receiveBit first bit) := by
  have act : ∀ t : State, State.FluxKept t (if s.activateDetected bit then t.change State.activateCode else t) := by
    intro t
    split
    · exact change (activateCode t)
    · exact .refl t
  have rel : ∀ t : State, State.FluxKept t (if s.releaseDetected bit then t.change State.releaseCode else t) := by
    intro t
    split
    · exact change (releaseCode t)
    · exact .refl t
  have fed : State.FluxKept s (s.feedBit bit) := of_same rfl rfl rfl
  simp only [State.receiveBit]
  split
  · split
    · exact fed.trans ((act _).trans (rel _))
    · exact fed.trans ((rel _).trans (act _))
  · exact .refl s

theorem startGeneration (s : State) : State.FluxKept s s.startGeneration := by
  simp only [State.startGeneration]
  refine (cutFrame s).trans ?_
  generalize s.cutFrame = t
  refine .trans ?_ (activateCode _)
  exact of_same rfl rfl rfl

theorem endGeneration (s : State) : State.FluxKept s s.endGeneration := by
  simp only [State.endGeneration]
  split
  · exact of_same rfl rfl rfl
  · exact .refl s

theorem stowInput (active : Bool) (s : State) : State.FluxKept s (s.stowInput active) := by
  have shown : State.FluxKept s { s with stowin := active } := of_same rfl rfl rfl
  simp only [State.stowInput]
  split
  · exact shown.trans (change (setSources _ _ rfl))
  · exact shown

theorem tripInput (active : Bool) (s : State) : State.FluxKept s (s.tripInput active) := by
  have shown : State.FluxKept s { s with tripin := active } := of_same rfl rfl rfl
  simp only [State.tripInput]
  split
  · exact shown.trans (change (startGeneration _))
  · exact shown

/-! ## Axes (R44 to R58) -/

theorem axisStep (i : Fin 8) (a : AxisId) (s : State) : State.FluxKept s (s.axisStep i a) := by
  simp only [State.axisStep]
  split
  · exact updateHelio i (.stepAxis ..)
  · exact .refl s

theorem homefail (i : Fin 8) (a : AxisId) (s : State) : State.FluxKept s (s.homefail i a) := by
  simp only [State.homefail]
  split
  · exact updateHelio i (.homefailTest ..)
  · exact .refl s

theorem indexRise (i : Fin 8) (a : AxisId) (s : State) : State.FluxKept s (s.indexRise i a) := by
  simp only [State.indexRise]
  split_ifs
  · exact updateHelio i (.homingEdge ..)
  · exact (updateHelio i (.setAxis ..)).trans (count ..)
  · exact updateHelio i (.detect ..)
  · exact .refl s

theorem indexEdge (i : Fin 8) (a : AxisId) (level : Bool) (s : State) : State.FluxKept s (s.indexEdge i a level) := by
  have shown : State.FluxKept s { s with helios := s.helios.set i (s.helios[i].setIndex a level) } :=
    setHelio s i (.of_view (by cases a <;> rfl))
  simp only [State.indexEdge]
  split_ifs
  · exact shown.trans (change (indexRise ..))
  · exact shown

theorem driveFault (i : Fin 8) (active : Bool) (s : State) : State.FluxKept s (s.driveFault i active) := by
  have shown : State.FluxKept s { s with helios := s.helios.set i { s.helios[i] with drvflt := active } } :=
    setHelio s i (.of_view rfl)
  simp only [State.driveFault]
  split
  · exact shown.trans (change (updateHelio i (.detect ..)))
  · exact shown

/-! ## Irradiance windows and one microsecond (R44, R157 to R159) -/

theorem dniPulse (s : State) : State.FluxKept s { s with irm := s.irm.pulse } := by
  have pulsed : (s.irm.pulse.m, s.irm.pulse.h) = (s.irm.m, s.irm.h) := by
    simp only [IrradianceMonitor.pulse]
    split <;> rfl
  exact of_same (by simp only [State.fluxView, pulsed]) rfl rfl

theorem advance (level : Bool) (s : State) : State.FluxKept s (s.advance level) := by
  have irm : (s.irm.advance.m, s.irm.advance.h) = (s.irm.m, s.irm.h) := by
    simp only [IrradianceMonitor.advance]
    split <;> rfl
  have tx : s.bi.tx.advance.phase = s.bi.tx.phase := by
    simp only [Transmitter.advance]
    split <;> rfl
  refine of_serves (by simp only [State.fluxView, State.advance, irm, tx]) rfl fun i => ?_
  simp only [State.advance, Fin.getElem_fin, getElem_mapEach]
  exact .of_view rfl

theorem tick (s : State) : State.FluxKept s s.tick := by
  simp only [State.tick]
  split
  · exact .refl s
  · exact (advance (Config.lineLevel s.draws s.drive) s).trans (of_same rfl rfl rfl)

/-- R158, R159: the end of a window bounds m by 1,500, and H by DNI_FLOOR, m and 1,500. -/
theorem windowEnd (s : State) : State.FluxKept s { s with irm := s.irm.endWindow s.cfg } := by
  have irradiance : IrradianceOk s → IrradianceOk { s with irm := s.irm.endWindow s.cfg } := by
    intro ok loaded
    obtain ⟨floor, planning, measured⟩ := ok loaded
    obtain ⟨-, e⟩ | ⟨-, -, -, e⟩ := s.irm.endWindow_cases s.cfg <;> simp only [e]
    · exact ⟨floor, planning, measured⟩
    · have capped : measuredDni s.irm.pulses s.cfg.dniScale ≤ 1500 := Nat.min_le_right _ _
      simp only [nextPlanning]
      split <;> omega
  exact ⟨⟨⟨irradiance, fun ok => ok.of_yields rfl (fun _ => (Helio.Serves.refl _).toYields) rfl Iff.rfl rfl⟩, id⟩, id⟩

end State.FluxKept
end Sys2Proof.Machine
end

section
/-! Chapter 9 through the build and the completion of the own frame, and the end of a load (R162 to R177, R184). -/

namespace Sys2Proof.Machine

variable {s t : State}

/-- Whatever the row, from one state to the next: the irradiance bounds, and R177 less the engaged levels. -/
structure State.FluxRow (s t : State) : Prop where
  irradiance : IrradianceOk s → IrradianceOk t
  flux : FluxOk s → t.ClaimsOk ∧ InterestOk t ∧ NightOk t

theorem State.ClaimsOk.of_fluxOk (ok : FluxOk s) : s.ClaimsOk := by
  obtain ⟨bounded, -, placements, candidates, carried, -, -⟩ := ok
  exact ⟨bounded, (placementsOk_iff s).1 placements, candidates, carried⟩

theorem State.FluxKept.row (k : State.FluxKept s t) : State.FluxRow s t := by
  refine ⟨k.irradiance, fun ok => ⟨k.claims (.of_fluxOk ok), ?_⟩⟩
  obtain ⟨-, -, -, -, -, interest, night⟩ := ok
  exact ⟨k.interest interest, k.night night⟩

/-! ## Who can claim (R7, R65, R67, R68) -/

/-- R67, R68: a heliostat at TRACK is in service at a station that has loaded, and nothing stows it. -/
theorem Helio.serving_of_track {h : Helio} {src : Sources} {l : Bool} (ok : h.engaged = h.governing src l)
    (track : h.engaged = .track) : l = true ∧ h.cfg.present = true ∧ h.inService = true ∧ src.stowNight = false := by
  rw [ok, Helio.governing] at track
  split at track
  · cases track
  · rename_i unmasked
    have calm : src.stowNight = false := by
      by_contra night
      rw [Bool.not_eq_false] at night
      simp [demandedLevel, night] at track
    simp only [Helio.masked, Helio.usable, Bool.not_eq_true', Bool.not_eq_false, Bool.and_eq_true] at unmasked
    obtain ⟨⟨loaded, ⟨present, inService⟩, -⟩, -⟩ := unmasked
    exact ⟨loaded, present, inService, calm⟩

/-- R65: a heliostat at another level than TRACK holds and defers nothing. -/
theorem Helio.Placed.of_not_track {h : Helio} (ok : h.Placed) (other : h.engaged ≠ .track) :
    h.assignment = none ∧ h.deferred = none :=
  ⟨Option.not_isSome_iff_eq_none.1 fun e => other (ok.assigned e),
    Option.not_isSome_iff_eq_none.1 fun e => other (ok.deferred e).1⟩

/-- R12: no heliostat claims a zone outside the interest set. -/
theorem State.claimSum_outside (engaged : EngagedOk s) (ok : s.ClaimsOk) {z : Fin 32} (outside : z.val ∉ s.interestZones) :
    s.claimSum z.val = 0 := by
  refine sum_helios_eq_zero fun i => ?_
  have absent {ap : Nat} (track : s.helios[i].engaged = .track) (candidate : ap ∈ s.helios[i].cfg.candidates) :
      s.cfg.zoneOf ap ≠ some z.val := fun zone => by
    obtain ⟨-, present, inService, -⟩ := Helio.serving_of_track (engaged i) track
    exact outside ((s.mem_interestZones z.val).2 ⟨z.isLt, i, present, inService, ap, candidate, zone⟩)
  have assigned : zoneOfField s.cfg s.helios[i].assignment ≠ some z.val := fun zone => by
    obtain ⟨ap, assigned, zone⟩ := zoneOfField_eq_some.1 zone
    exact absent ((ok.placed i).assigned (by rw [assigned]; rfl)) ((ok.candidates i).1 ap assigned) zone
  have deferred : zoneOfField s.cfg s.helios[i].deferred ≠ some z.val := fun zone => by
    obtain ⟨ap, deferred, zone⟩ := zoneOfField_eq_some.1 zone
    exact absent ((ok.placed i).deferred (by rw [deferred]; rfl)).1 ((ok.candidates i).2 ap deferred) zone
  rw [assignedShare, deferredShare, if_neg assigned, if_neg deferred]

/-- What is claimed of a zone is assigned there or deferred to it. -/
theorem State.claimSum_eq (s : State) (z : Nat) :
    s.claimSum z = s.assignedSum z + (s.helios.toList.map (deferredShare s.cfg z)).sum := List.sum_map_add

/-! ## The claims an allocation makes (R168 to R172) -/

/-- A sum of the P of a kind, heliostat by heliostat. -/
theorem State.sumOver_eq_sum (s : State) (l : List (Fin 8)) (c : Fin 8 → Bool) :
    s.sumOver l c = (l.map fun i => if c i = true then s.helios[i].p else 0).sum := by
  induction l with
  | nil => rfl
  | cons i rest ih =>
    rw [List.map_cons, List.sum_cons, ← ih]
    cases h : c i <;> simp [State.sumOver, h]

/-- R169: a heliostat that is kept counts its P, and no other is assigned. -/
theorem State.assignedShare_passes (s : State) (z : Nat) (i : Fin 8) : assignedShare s.cfg z s.passes.helios[i] =
    if keptIn s.cfg s.passes.helios z i = true then s.helios[i].p else 0 := by
  simp only [keptIn_iff, assignedShare]
  split
  · rename_i zone
    obtain ⟨ap, assigned, -⟩ := zoneOfField_eq_some.1 zone
    cases e : s.helios[i].eligible
    · rw [State.passes_of_ineligible e] at assigned
      cases assigned
    · obtain ⟨-, value⟩ | ⟨-, value⟩ := State.passes_of_eligible e <;> rw [value] at assigned ⊢
      cases assigned
  · rfl

/-- R170: a heliostat that is placed has its P as placement P, and no other is deferred. -/
theorem State.deferredShare_passes (s : State) (z : Nat) (i : Fin 8) : deferredShare s.cfg z s.passes.helios[i] =
    if placedIn s.cfg s.passes.helios z i = true then s.helios[i].p else 0 := by
  simp only [placedIn_iff, deferredShare]
  split
  · rename_i zone
    obtain ⟨ap, deferred, -⟩ := zoneOfField_eq_some.1 zone
    cases e : s.helios[i].eligible
    · rw [State.passes_of_ineligible e] at deferred
      cases deferred
    · obtain ⟨-, value⟩ | ⟨-, value⟩ := State.passes_of_eligible e <;> rw [value] at deferred ⊢
      · cases deferred
      · exact if_pos (Option.isSome_iff_exists.2 ⟨ap, deferred⟩)
  · rfl

/-- R169, R170: an allocation leaves every placement in order, on a candidate of its heliostat. -/
theorem State.passes_placed {i : Fin 8} (ok : s.helios[i].Placed)
    (candidates : ∀ ap ∈ s.helios[i].assignment, ap ∈ s.helios[i].cfg.candidates) :
    s.passes.helios[i].Placed ∧ (∀ ap ∈ s.passes.helios[i].assignment, ap ∈ s.passes.helios[i].cfg.candidates) ∧
      ∀ ap ∈ s.passes.helios[i].deferred, ap ∈ s.passes.helios[i].cfg.candidates := by
  cases e : s.helios[i].eligible
  · rw [State.passes_of_ineligible e]
    exact ⟨⟨nofun, nofun, ok.snapshot⟩, nofun, nofun⟩
  · obtain ⟨-, value⟩ | ⟨-, value⟩ := State.passes_of_eligible e <;> rw [value]
    · exact ⟨⟨ok.assigned, nofun, ok.snapshot⟩, candidates, nofun⟩
    · have track : s.helios[i].engaged = .track := by
        simp only [Helio.eligible, Bool.and_eq_true, beq_iff_eq] at e
        exact e.2
      exact ⟨⟨nofun, fun _ => ⟨track, rfl⟩, ok.snapshot⟩, nofun, fun ap found => List.mem_of_find?_eq_some found⟩

/-- R177: an allocation assigns no zone more than was published, and its list covers what it defers besides. -/
theorem State.ClaimsOk.allocate (ok : s.ClaimsOk) (helios : t.helios = s.passes.helios) (cfg : t.cfg = s.cfg)
    (plan : t.fa.plan = s.fa.plan) (carried : t.fa.carried = s.contributionList s.passes)
    (built : t.bi.tx.phase ≠ .empty) : t.ClaimsOk := by
  have assigned (z : Nat) : t.assignedSum z = sumOfP s (keptIn s.cfg s.passes.helios z) := by
    rw [State.assignedSum, helios, cfg, sum_helios, sumOfP_eq, State.sumOver_eq_sum]
    simp only [State.assignedShare_passes]
  have deferred (z : Nat) : (t.helios.toList.map (deferredShare t.cfg z)).sum = sumOfP s (placedIn s.cfg s.passes.helios z) := by
    rw [helios, cfg, sum_helios, sumOfP_eq, State.sumOver_eq_sum]
    simp only [State.deferredShare_passes]
  refine ⟨fun z => ?_, fun i => ?_, fun i => ?_, fun empty => absurd empty built, fun _ z => ?_⟩
  · have kept := (s.allocated_le z.val).1
    rw [assigned, State.published, plan]
    refine kept.trans ?_
    split
    · exact Nat.min_le_right _ _
    · exact Nat.zero_le _
  · rw [helios]
    exact (State.passes_placed (ok.placed i) (ok.candidates i).1).1
  · rw [helios]
    exact (State.passes_placed (ok.placed i) (ok.candidates i).1).2
  · rw [carried, s.plannedFor_contributionList, State.claimSum_eq, assigned, deferred]
    exact le_refl _

/-! ## The build (R95, R162) -/

/-- R95: what a build leaves beside the heliostats, the Flux Allocator, the transmitter and the Alert Unit. -/
theorem State.buildFrame_frame (s : State) : s.buildFrame.sc = s.sc ∧ s.buildFrame.cfg = s.cfg ∧ s.buildFrame.irm = s.irm ∧
    s.buildFrame.src = s.src ∧ s.buildFrame.interest = s.interest ∧ s.buildFrame.fa.plan = s.fa.plan ∧
    s.buildFrame.bi.tx.phase = .built := by
  have supplied : s.supplyPlan = { s with helios := s.supplyPlan.helios, fa := { s.supplyPlan.fa with plan := s.fa.plan } } := by
    simp only [State.supplyPlan]
    split <;> rfl
  refine ⟨(s.change_sc _).trans ?_, (s.change_cfg _).trans ?_, (s.change_irm _).trans ?_, (s.change_src _).trans ?_,
    (s.change_interest _).trans ?_, (congrArg FluxAllocator.plan (s.change_fa _)).trans ?_, rfl⟩
  all_goals rw [supplied]

/-- R168: an allocation changes no record and takes nothing out of service. -/
theorem State.passes_service (s : State) (i : Fin 8) : s.passes.helios[i].cfg = s.helios[i].cfg ∧
    s.passes.helios[i].inService = s.helios[i].inService := by
  cases e : s.helios[i].eligible
  · rw [State.passes_of_ineligible e]
    exact ⟨rfl, rfl⟩
  · obtain ⟨-, value⟩ | ⟨-, value⟩ := State.passes_of_eligible e <;> rw [value] <;> exact ⟨rfl, rfl⟩

theorem State.buildFrame_service (s : State) (i : Fin 8) : s.buildFrame.helios[i].cfg = s.helios[i].cfg ∧
    s.buildFrame.helios[i].inService = s.helios[i].inService := by
  have supplied : s.supplyPlan.helios = s.passes.helios ∨ s.supplyPlan.helios = s.helios := by
    simp only [State.supplyPlan]
    split
    · exact .inl rfl
    all_goals exact .inr rfl
  rw [s.buildFrame_supplied.1]
  obtain passed | same := supplied
  · rw [passed]
    exact s.passes_service i
  · rw [same]
    exact ⟨rfl, rfl⟩

theorem State.willBuild_spec (will : s.willBuild = true) : s.running = true ∧ s.frameAllowed = true ∧ s.bi.tx.phase = .empty := by
  simp only [State.willBuild, Bool.and_eq_true, beq_iff_eq] at will
  obtain ⟨⟨⟨⟨⟨⟨running, allowed⟩, -⟩, empty⟩, -⟩, -⟩, -⟩ := will
  exact ⟨running, allowed, empty⟩

/-- R162: in OPERATING the build allocates, in ISOLATED it repeats what was published, and in NIGHT nothing is assigned. -/
theorem State.ClaimsOk.build (ok : FluxOk s) (will : s.willBuild = true) : s.buildFrame.ClaimsOk := by
  have claims : s.ClaimsOk := .of_fluxOk ok
  obtain ⟨-, engaged, -, -, -, interest, night⟩ := ok
  obtain ⟨running, allowed, empty⟩ := State.willBuild_spec will
  obtain ⟨helios, fa, -⟩ := s.buildFrame_supplied
  obtain ⟨-, cfg, -, -, -, plan, built⟩ := s.buildFrame_frame
  have full : s.buildFrame.bi.tx.phase ≠ .empty := by
    rw [built]
    nofun
  generalize s.buildFrame = t at helios fa cfg plan full
  cases state : s.sc.state <;> simp only [State.frameAllowed, state, Bool.false_eq_true] at allowed
  case operating =>
    rw [State.supplyPlan_of_operating state] at helios fa
    exact claims.allocate helios cfg plan (by rw [fa]; rfl) full
  case isolated =>
    simp only [State.supplyPlan, state] at helios fa
    have published : t.published = s.published := by
      funext z
      rw [State.published, State.published, plan]
    refine ⟨fun z => ?_, fun i => ?_, fun i => ?_, fun empty => absurd empty full, fun _ z => ?_⟩
    · rw [State.assignedSum, helios, cfg, published]
      exact claims.bounded z
    · rw [helios]
      exact claims.placed i
    · rw [helios]
      exact claims.candidates i
    · have same : t.claimSum z.val = s.claimSum z.val := by rw [State.claimSum, helios, cfg, State.claimSum]
      rw [same, fa]
      refine le_trans ?_ (plannedFor_map ..).ge
      rw [interest (by rw [state]; rfl)]
      split
      · rw [State.claimSum_eq, sum_helios_eq_zero fun i => deferredShare_of_undeferred (claims.carried.1 empty i) _ _]
        exact claims.bounded z
      · rename_i outside
        exact (State.claimSum_outside engaged claims outside).le
  case night =>
    simp only [State.supplyPlan, state] at helios
    have idle (i : Fin 8) : s.helios[i].assignment = none ∧ s.helios[i].deferred = none := by
      refine (claims.placed i).of_not_track fun track => ?_
      obtain ⟨-, -, -, calm⟩ := Helio.serving_of_track (engaged i) track
      rw [night state] at calm
      cases calm
    refine .of_unassigned (fun i => ?_) (fun i => ?_) fun i => ?_ <;> rw [helios]
    · exact claims.placed i
    · exact (idle i).1
    · exact (idle i).2

theorem State.FluxRow.build (will : s.willBuild = true) : State.FluxRow s s.buildFrame := by
  obtain ⟨sc, cfg, irm, src, interest, -⟩ := s.buildFrame_frame
  refine ⟨fun ok => ?_, fun ok => ⟨.build ok will, ?_⟩⟩
  · rw [IrradianceOk, sc, cfg, irm]
    exact ok
  · obtain ⟨-, -, -, -, -, found, night⟩ := ok
    rw [InterestOk, NightOk, sc, src, interest, State.interestZones_congr cfg s.buildFrame_service]
    exact ⟨found, night⟩

/-! ## Completion (R174) -/

/-- R174: what was assigned or deferred is assigned, and counts what it claimed. -/
theorem Helio.Placed.applyPlacement {h : Helio} (ok : h.Placed) (cfg : StationConfig) (z : Nat) :
    h.applyPlacement.Placed ∧ h.applyPlacement.deferred = none ∧
      assignedShare cfg z h.applyPlacement = assignedShare cfg z h + deferredShare cfg z h ∧
      ∀ ap, h.applyPlacement.assignment = some ap → h.assignment = some ap ∨ h.deferred = some ap := by
  obtain ⟨none, e⟩ | ⟨ap, deferred, e⟩ := h.applyPlacement_cases <;> rw [e]
  · rw [deferredShare_of_undeferred none]
    exact ⟨ok, none, rfl, fun _ => .inl⟩
  · obtain ⟨track, unassigned⟩ := ok.deferred (by rw [deferred]; rfl)
    refine ⟨⟨fun _ => track, nofun, ok.snapshot⟩, rfl, ?_, fun _ q => .inr (deferred.trans q)⟩
    rw [assignedShare_of_unassigned unassigned, Nat.zero_add, deferredShare, deferred]
    rfl

theorem State.ClaimsOk.complete (ok : FluxOk s) (loaded : s.sc.state.loaded = true) (full : s.bi.tx.phase ≠ .empty) :
    s.completeFrame.ClaimsOk := by
  have claims : s.ClaimsOk := .of_fluxOk ok
  obtain ⟨-, engaged, -, -, -, interest, -⟩ := ok
  have applied (z : Nat) (i : Fin 8) := (claims.placed i).applyPlacement s.cfg z
  have helio (i : Fin 8) : s.completeFrame.helios[i] = s.helios[i].applyPlacement := s.completeFrame_helio i.val i.isLt
  have undeferred (i : Fin 8) : s.completeFrame.helios[i].deferred = none := by
    obtain ⟨-, none, -⟩ := applied 0 i
    rw [helio, none]
  refine ⟨fun z => ?_, fun i => ?_, fun i => ?_, fun _ => undeferred, fun full => absurd rfl full⟩
  · have assigned : s.completeFrame.assignedSum z.val = s.claimSum z.val := by
      rw [State.assignedSum, State.claimSum, sum_helios, sum_helios]
      refine congrArg List.sum (List.map_congr_left fun i _ => ?_)
      obtain ⟨-, -, share, -⟩ := applied z.val i
      rw [helio]
      exact share
    rw [assigned]
    refine le_trans ?_ (plannedFor_publishedPlan ..).ge
    split
    · exact claims.carried.2 full z
    · rename_i outside
      rw [interest loaded] at outside
      exact (State.claimSum_outside engaged claims outside).le
  · rw [helio]
    exact (applied 0 i).1
  · obtain ⟨-, -, -, origin⟩ := applied 0 i
    refine ⟨fun ap e => ?_, fun ap e => ?_⟩
    · rw [helio] at e ⊢
      have same : s.helios[i].applyPlacement.cfg = s.helios[i].cfg := by
        obtain ⟨-, e⟩ | ⟨ap, -, e⟩ := s.helios[i].applyPlacement_cases <;> rw [e]
      rw [same]
      exact (origin ap e).elim ((claims.candidates i).1 ap) ((claims.candidates i).2 ap)
    · rw [undeferred] at e
      cases e

theorem State.FluxRow.complete (loaded : s.sc.state.loaded = true) (full : s.bi.tx.phase ≠ .empty) :
    State.FluxRow s s.completeFrame := by
  refine ⟨id, fun ok => ⟨.complete ok loaded full, ?_⟩⟩
  obtain ⟨-, -, -, -, -, found, night⟩ := ok
  refine ⟨fun loaded => ?_, night⟩
  refine (found loaded).trans (State.interestZones_congr (s := s) (t := s.completeFrame) rfl fun i => ?_).symm
  rw [Fin.getElem_fin, State.completeFrame_helio]
  obtain ⟨-, e⟩ | ⟨ap, -, e⟩ := s.helios[i.val].applyPlacement_cases <;> rw [e] <;> exact ⟨rfl, rfl⟩

/-! ## The end of a load (R156, R159, R182, R184) -/

/-- R156, R182: the irradiance limits of an image that passes are in order. -/
theorem judgeImage_limits {number : Nat} {image : List Byte} {v : ImageValues} (h : judgeImage number image = some v) :
    v.cfg.dniFloor ≤ v.cfg.dniDesign ∧ v.cfg.dniDesign ≤ 1500 := by
  obtain ⟨-, -, fits, rfl⟩ := judgeImage_some h
  simp only [contentFits, Bool.and_eq_true] at fits
  obtain ⟨⟨⟨⟨-, station⟩, -⟩, -⟩, -⟩ := fits
  simp only [stationFits, Bool.and_eq_true, within_iff] at station
  obtain ⟨⟨⟨⟨-, floor⟩, design⟩, -⟩, -⟩ := station
  simp only [readValues]
  omega

/-- R184: a heliostat that rested before the load rests after its record is taken, and engages. -/
theorem Helio.load_placed {h : Helio} (ok : h.Placed) (none : h.engaged = .none) (r : HelioImage) (src : Sources) :
    ((h.load r).engageAtLoad src).Placed ∧ ((h.load r).engageAtLoad src).assignment = .none ∧
      ((h.load r).engageAtLoad src).deferred = .none := by
  have rested : (h.load r).Placed := by
    rw [h.load_eq r]
    exact ⟨ok.assigned, ok.deferred, ok.snapshot⟩
  have unengaged : (h.load r).engaged ≠ .track := by
    rw [h.load_eq r]
    show h.engaged ≠ .track
    rw [none]
    nofun
  obtain ⟨unassigned, undeferred⟩ := rested.of_not_track unengaged
  have serves : Helio.Serves (h.load r) ((h.load r).engageAtLoad src) := by
    simp only [Helio.engageAtLoad]
    split
    · exact (Helio.Serves.reengage ..).trans ((Helio.Serves.homingStart _).trans (.reengage ..))
    · exact .reengage ..
  refine ⟨serves.placed rested, Option.eq_none_iff_forall_not_mem.2 fun ap e => ?_,
    Option.eq_none_iff_forall_not_mem.2 fun ap e => ?_⟩
  · have before := serves.assignment ap e
    rw [unassigned] at before
    cases before
  · have before := (serves.deferred ap e).1
    rw [undeferred] at before
    cases before

theorem State.FluxRow.passLoad {v : ImageValues} (unloaded : s.sc.state.loaded = false) {number : Nat} {image : List Byte}
    (passed : judgeImage number image = some v) : State.FluxRow s (s.passLoad v) := by
  obtain ⟨floor, design⟩ := judgeImage_limits passed
  obtain ⟨each, -, sc, -, whole⟩ := s.passLoad_eq v
  generalize s.passLoad v = t at each sc whole
  have cfg : t.cfg = v.cfg := congrArg State.cfg whole
  refine ⟨fun _ _ => ?_, fun ok => ?_⟩
  · rw [cfg, show t.irm = .start v.cfg from congrArg State.irm whole]
    exact ⟨floor, design, Nat.zero_le _⟩
  · have claims : s.ClaimsOk := .of_fluxOk ok
    obtain ⟨-, engaged, -⟩ := ok
    have loaded (i : Fin 8) := Helio.load_placed (claims.placed i)
      ((engaged i).trans (by rw [unloaded]; exact if_pos rfl)) v.records[i] t.src
    refine ⟨.of_unassigned (fun i => ?_) (fun i => ?_) fun i => ?_, fun _ => ?_, fun night => ?_⟩
    · rw [each]
      exact (loaded i).1
    · rw [each]
      exact (loaded i).2.1
    · rw [each]
      exact (loaded i).2.2
    · refine (congrArg State.interest whole).trans (Eq.symm (State.interestZones_congr cfg fun i => ?_))
      obtain ⟨record, inService, -⟩ := (s.helios[i].load v.records[i]).engageAtLoad_frame t.src
      rw [each i]
      simp only [Fin.getElem_fin, getElem_mapEach]
      exact ⟨record, inService⟩
    · rw [sc] at night
      cases night

end Sys2Proof.Machine
end

section
/-! The planning irradiance and the published flux over every row and every step (R159, R177). -/

namespace Sys2Proof.Machine

section Steps

variable {s t u : State} {c : Instr}

/-- A row after an operation that leaves what the levels rest on. -/
theorem State.FluxKept.then (a : State.FluxKept s t) (same : t.levelView = s.levelView) (b : State.FluxRow t u) :
    State.FluxRow s u := by
  refine ⟨b.irradiance ∘ a.irradiance, fun ok => b.flux ?_⟩
  have claims := a.claims (.of_fluxOk ok)
  obtain ⟨-, engaged, -, -, -, interest, night⟩ := ok
  exact ⟨claims.bounded, (State.Levelled.of_same ⟨engaged⟩ same).engaged, (placementsOk_iff t).2 claims.placed,
    claims.candidates, claims.carried, a.interest interest, a.night night⟩

theorem State.FluxRow.endLoad (loading : s.sc.state = .loading) (image : List Byte) : State.FluxRow s (s.endLoad image) := by
  have unloaded : s.sc.state.loaded = false := by rw [loading]; rfl
  cases judged : judgeImage s.sc.number image with
  | none =>
    rw [State.endLoad_of_refused judged]
    refine State.FluxKept.row ⟨⟨⟨fun _ => nofun, fun ok => ?_⟩, fun _ => nofun⟩, fun _ => nofun⟩
    exact ok.of_yields rfl (fun _ => (Helio.Serves.refl _).toYields) rfl Iff.rfl rfl
  | some v =>
    rw [State.endLoad_of_passed judged]
    refine State.FluxKept.then ?_ ?_ (.passLoad unloaded judged)
    · exact .of_same rfl rfl rfl
    · rfl

/-- Whatever the row, the irradiance stays in its bounds and the claims within what is published and carried. -/
theorem State.FluxRow.of_exec (h : exec c s = .next t) : State.FluxRow s t := by
  cases c <;> cases h
  case build =>
    show State.FluxRow s (ite _ _ _)
    split
    · exact .build ‹_›
    · exact (State.FluxKept.refl s).row
  case transmitCompletion =>
    simp only [State.ifRunning]
    split
    · rename_i running
      split
      · rename_i sending
        exact .complete (State.Kept.of_running running) (by rw [sending]; nofun)
      · exact (State.FluxKept.refl s).row
    · exact (State.FluxKept.refl s).row
  case loadEnd w image =>
    show State.FluxRow s (ite _ _ _)
    split
    · rename_i begun
      have sampled : State.FluxKept s (s.strapsAt w) := .of_same rfl rfl rfl
      exact sampled.then rfl (.endLoad (s := s.strapsAt w) begun.1 image)
    · exact (State.FluxKept.refl s).row
  all_goals refine State.FluxKept.row ?_
  case stowField => exact .ifRunning fun _ => .takeCommand (.stationWide _ (.stowField _))
  case stowRelease => exact .ifRunning fun _ => .takeCommand (.stationWide _ (.stowRelease _))
  case standbySet => exact .ifRunning fun _ => .takeCommand (.stationWide _ (.standbySet _))
  case standbyClear => exact .ifRunning fun _ => .takeCommand (.stationWide _ (.standbyClear _))
  case hold => exact .ifRunning fun _ => .takeCommand (.hold ..)
  case holdRelease => exact .ifRunning fun _ => .takeCommand (.holdRelease ..)
  case serviceOut => exact .ifRunning fun _ => .takeCommand (.serviceOut ..)
  case serviceIn => exact .ifRunning fun _ => .takeCommand (.serviceIn ..)
  case correct => exact .ifRunning fun _ => .takeCommand (.correct ..)
  case rehome => exact .ifRunning fun _ => .takeCommand (.rehome ..)
  case defocusRelease => exact .ifRunning fun _ => .takeCommand (.stationWide _ (.defocusRelease _))
  case clearAlerts => exact .ifRunning fun _ => .takeCommand (.stationWide _ (.clearAlerts _))
  case clearSticky => exact .ifRunning fun _ => .takeCommand (.stationWide _ (.clearSticky _))
  case report => exact .ifRunning fun _ => .takeCommand (.report ..)
  case restart => exact .ifRunning fun _ => .restart ..
  case reservedCommand =>
    refine .ifRunning fun _ => ?_
    split
    · exact .answer ..
    · exact .refl _
  case sunFrame => exact .receiveBody ..
  case receiverFrame => exact .receiveBody ..
  case contributionFrame => exact .receiveBody ..
  case commandFrame => exact .receiveBody ..
  case ownNumberFrame =>
    show State.FluxKept _ (ite _ _ _)
    split
    · exact .takeFrame ..
    · exact .refl _
  case frameDropped => exact .receiveRaw ..
  case epochStart => exact .unlessCut (.wrap ..)
  case timeMark => exact .unlessReset (.timeMark ..)
  case markWindowClose => exact .unlessReset (.closeWindow _)
  case markLost => exact .unlessReset (.change (.markLostTest _))
  case slotStart =>
    refine .unlessCut ?_
    split
    · exact .startSlot ..
    · exact .refl _
  case busLost => exact .ifRunning fun _ => .change (.busLostTest _)
  case frameBegin => exact .ifRunning fun _ => .frameStart _
  case echoMismatch =>
    refine .ifRunning fun _ => ?_
    split
    · exact .echoAbort _
    · exact .refl _
  case enterSilent =>
    refine .ifRunning fun _ => ?_
    split
    · exact .change (.becomeSilent (State.Kept.silentDecided_loaded ‹_›))
    · exact .refl _
  case enterIsolated =>
    refine .ifRunning fun _ => ?_
    split
    · rename_i decided
      exact .change (.becomeIsolated (State.Kept.isolatedDecided_state decided).1)
    · exact .refl _
  case enterNight =>
    refine .ifRunning fun _ => ?_
    split
    · exact .change (.enterNight ‹_›)
    · exact .refl _
  case sunRecordExpiry => exact .ifRunning fun _ => .of_same rfl rfl rfl
  case rxStale => exact .ifRunning fun _ => .change (.rxStaleTest _)
  case peerAgeOut => exact .ifRunning fun _ => .of_same rfl rfl rfl
  case residueExpiry => exact .ifRunning fun _ => .of_same rfl rfl rfl
  case aimTick => exact .ifRunning fun _ => .aimTick ..
  case axisStep =>
    show State.FluxKept _ (ite _ _ _)
    split
    · exact .refl _
    · exact .change (.axisStep ..)
  case indexEdge => exact .indexEdge ..
  case homefail =>
    show State.FluxKept _ (ite _ _ _)
    split
    · exact .refl _
    · exact .change (.homefail ..)
  case driveFault => exact .driveFault ..
  case stowInputChange => exact .stowInput ..
  case tripEdge => exact .tripInput ..
  case generationEnd => exact .ifRunning fun _ => .endGeneration _
  case activateDetection => exact .receiveBit ..
  case releaseDetection => exact .receiveBit ..
  case detectorLock => exact .receiveBit ..
  case dniPulse => exact .ifRunning fun _ => .dniPulse _
  case windowEnd => exact .ifRunning fun _ => .change (.windowEnd _)
  case powerOnReset i => exact .trans (t := s.strapsAt i.straps) (.of_same rfl rfl rfl) (.powerOnReset ..)
  case resetn i => exact .trans (t := s.strapsAt i.straps) (.of_same rfl rfl rfl) (.resetPin ..)

/-- A step is one microsecond or a row. -/
theorem State.FluxRow.of_step (h : step s = .next t) : State.FluxRow s t := by
  cases waiting : s.pending with
  | nil =>
    rw [step_nil waiting] at h
    cases h
    exact (State.FluxKept.tick s).row
  | cons c rest =>
    rw [step_cons waiting] at h
    have taken : State.FluxKept s { s with pending := rest } := .of_same rfl rfl rfl
    exact taken.then rfl (.of_exec h)

end Steps

/-- Settles O52: a step is one microsecond or a row, and each leaves H and m within their bounds. -/
theorem planningIrradianceStaysInBounds : Obligations.PlanningIrradianceStaysInBounds :=
  fun _ _ ok h => (State.FluxRow.of_step h).irradiance ok

/-- Settles O39: a step is one microsecond or a row. The claims, the interest set and the NIGHT source are kept by each, and the
engaged levels by O7. -/
theorem publishedFluxIsNeverExceeded : Obligations.PublishedFluxIsNeverExceeded := by
  intro s t ok h
  obtain ⟨claims, interest, night⟩ := (State.FluxRow.of_step h).flux ok
  obtain ⟨-, engaged, -⟩ := ok
  exact ⟨claims.bounded, engagedLevelIsKept s t engaged h, (placementsOk_iff t).2 claims.placed, claims.candidates,
    claims.carried, interest, night⟩

end Sys2Proof.Machine
end

section
/-! The tests of an epoch start (R185 to R189, R191): what comes before them leaves what they read of the station state, the
heard flags and the NIGHT source (R118 apart), and the row of each state. -/

namespace Sys2Proof.Machine

variable {s : State}

/-! ## What the tests find as it was before the epoch start -/

/-- What the tests read beside the collision run, BUS-LOST and the night count, which the epoch start settles first. -/
def State.testView (s : State) : StationController × StationConfig × Bool × Bool × Bool :=
  (s.sc, s.cfg, s.src.stowNight, s.bi.heardEpoch, s.bi.heardOwnSlot)

theorem State.change_testView (s : State) (f : State → State) : (s.change f).testView = (f s).testView := by
  simp [State.testView]

theorem State.cutFrame_testView (s : State) : s.cutFrame.testView = s.testView := by
  obtain ⟨-, e⟩ | ⟨-, e⟩ | ⟨-, e⟩ := s.cutFrame_cases <;> rw [e] <;> rfl

theorem State.settleOwnSlot_testView (s : State) : s.settleOwnSlot.testView = s.testView := by
  rw [State.settleOwnSlot_eq]
  rfl

theorem State.continueTick_testView (s : State) (k : TickProgress) (stop : Nat) :
    (s.continueTick k stop).testView = s.testView := by
  rw [State.continueTick_frame]
  rfl

theorem State.finishTick_testView (s : State) : s.finishTick.testView = s.testView := by
  rw [State.finishTick_frame]
  rfl

theorem State.countSlot_testView (s : State) : s.countSlot.testView = s.testView := by
  rw [State.countSlot_eq]
  rfl

/-- R120: a stale receiver record sets STANDBY RX alone of the sources. -/
theorem State.rxStaleTest_testView (s : State) : s.rxStaleTest.testView = s.testView := by
  obtain ⟨v, -, tested⟩ := s.rxStaleTest_eq
  rw [tested]
  rfl

theorem State.handEpoch_testView (s : State) : s.handEpoch.testView = s.testView := by
  have counted : (s.change State.countSlot).testView = s.testView :=
    (s.change_testView _).trans s.countSlot_testView
  simp only [State.handEpoch]
  generalize s.change State.countSlot = t at counted
  have expired : ({ t with bi := t.bi.settleRun } : State).expireSuns.testView = t.testView := rfl
  generalize ({ t with bi := t.bi.settleRun } : State).expireSuns = u at expired
  have tested : (u.change State.rxStaleTest).testView = u.testView :=
    (u.change_testView _).trans u.rxStaleTest_testView
  exact tested.trans (expired.trans counted)

theorem State.updateSunSource_testView (s : State) (lost : Bool) : (s.updateSunSource lost).testView = s.testView := by
  simp only [State.updateSunSource]
  split <;> rfl

theorem State.beginTurns_testView (s : State) (sun : Vec3) (stop : Nat) : (s.beginTurns sun stop).testView = s.testView := by
  simp only [State.beginTurns]
  split
  · exact s.continueTick_testView _ stop
  · rfl

/-- R118: in NIGHT alone a tick may find the dawn. -/
theorem State.evaluateTick_testView (day : s.sc.state ≠ .night) (sun : Option Vec3) (stop : Nat) :
    (s.evaluateTick sun stop).testView = s.testView := by
  have updated : (s.change fun s => s.updateSunSource sun.isNone).testView = s.testView :=
    (s.change_testView _).trans (s.updateSunSource_testView _)
  have still : (s.change fun s => s.updateSunSource sun.isNone).sc.state ≠ .night := by
    rwa [State.change_sc, State.updateSunSource_sc]
  simp only [State.evaluateTick]
  generalize (s.change fun s => s.updateSunSource sun.isNone) = t at updated still
  cases sun with
  | none => exact updated
  | some v =>
    have dark : t.dawnMet v = false := by simp [State.dawnMet, still]
    simp only [dark, Bool.false_eq_true, if_false]
    exact (t.beginTurns_testView v stop).trans updated

theorem State.epochStartTick_testView {first : Bool} (day : first = false ∨ s.sc.state ≠ .night) :
    (s.epochStartTick first).testView = s.testView := by
  cases first with
  | false => rfl
  | true =>
    simp only [State.epochStartTick, if_true, State.startTick]
    split
    · exact State.evaluateTick_testView (s := s.leaveTickDue.tickTaken 0) (day.resolve_left nofun) _ 8
    · rfl

/-! ## An epoch start ends in the tests -/

/-- A running station comes to the tests of an epoch start with all they read in its view as it was. -/
theorem State.makeEpochStart_tested (run : s.running = true) {first : Bool} (day : first = false ∨ s.sc.state ≠ .night) :
    ∃ r : State, r.testView = s.testView ∧ s.makeEpochStart first = r.testEpoch := by
  have handed : s.scheduleTicks.finishTick.handEpoch.testView = s.testView :=
    (State.handEpoch_testView _).trans (State.finishTick_testView _)
  have sc : s.scheduleTicks.finishTick.handEpoch.sc = s.sc := congrArg Prod.fst handed
  exact ⟨_, (State.epochStartTick_testView (by rwa [sc])).trans handed, if_pos run⟩

theorem State.wrap_tested (run : s.running = true) {first : Bool} (day : first = false ∨ s.sc.state ≠ .night) :
    ∃ r : State, r.testView = s.testView ∧ s.wrap first = r.testEpoch := by
  have view : s.wrapped.testView = s.testView := s.settleOwnSlot_testView
  have sc : s.wrapped.sc = s.sc := congrArg Prod.fst view
  obtain ⟨r, same, tested⟩ := State.makeEpochStart_tested (s := s.wrapped) ((State.running_congr sc).trans run) (by rwa [sc])
  exact ⟨r, same.trans view, tested⟩

theorem State.markEpoch_tested (run : s.running = true) {first : Bool} (day : first = false ∨ s.sc.state ≠ .night) :
    ∃ r : State, r.testView = s.testView ∧ s.markEpoch first = r.testEpoch := by
  have view : s.cutFrame.settleOwnSlot.testView = s.testView :=
    (State.settleOwnSlot_testView _).trans s.cutFrame_testView
  simp only [State.markEpoch]
  generalize s.cutFrame.settleOwnSlot = t at view
  have sc : t.sc = s.sc := congrArg Prod.fst view
  obtain ⟨r, same, tested⟩ := State.makeEpochStart_tested
    (s := ({ t with bi := { t.bi.newEpoch with timerInstant := t.bi.timerInstant.cutDue } } : State).count
      fun c => { c with resyncs := bump c.resyncs })
    ((State.running_congr sc).trans run) (by rwa [State.count_sc, sc])
  exact ⟨r, same.trans view, tested⟩

theorem State.timeMark_tested (run : s.running = true) (closed : s.bi.markWindow = false) {first : Bool}
    (day : first = false ∨ s.sc.state ≠ .night) :
    ∃ r : State, r.testView = s.testView ∧ s.timeMark first = r.testEpoch := by
  have view : (s.change fun s => { s with bi := s.bi.marked }).testView = s.testView := s.change_testView _
  have sc : (s.change fun s => { s with bi := s.bi.marked }).sc = s.sc := congrArg Prod.fst view
  obtain ⟨r, same, tested⟩ := State.markEpoch_tested ((State.running_congr sc).trans run) (first := first) (by rwa [sc])
  refine ⟨r, same.trans view, Eq.trans ?_ tested⟩
  simp only [State.timeMark, closed, Bool.false_eq_true, if_false]

/-- R87, R88: an epoch start of a running station, by either row, ends in the tests. -/
theorem exec_epochStart_tested {b : Bool} {c : Instr} {t : State} (run : s.running = true)
    (row : (c = .epochStart b ∧ s.bi.timerInstant ≠ .cut) ∨ (c = .timeMark b ∧ s.bi.markWindow = false))
    (h : exec c s = .next t) (day : b = false ∨ s.sc.state ≠ .night) :
    ∃ r : State, r.testView = s.testView ∧ t = r.testEpoch := by
  have released : s.inReset = false := ((State.running_iff s).1 run).1
  rcases row with ⟨rfl, due⟩ | ⟨rfl, closed⟩
  · rw [execEpochStart_of_not_cut released due] at h
    cases h
    exact State.wrap_tested run day
  · have marked : exec (.timeMark b) s = .next (s.timeMark b) := congrArg _ (if_neg (by simp [released]))
    rw [marked] at h
    cases h
    exact State.timeMark_tested run closed day

/-! ## What the tests leave -/

theorem State.cutFrame_sc (s : State) : s.cutFrame.sc = s.sc := congrArg Prod.fst s.cutFrame_testView

theorem State.toState_sc (s : State) (new : StationState) : (s.toState new).sc = { s.sc with state := new } := by
  simp only [State.toState]
  split
  · rfl
  · rw [State.cutFrame_sc]

theorem State.becomeSilent_sc (s : State) : s.becomeSilent.sc = { s.sc with state := .silent, isoCount := 0 } := by
  simp [State.becomeSilent, State.toState_sc]

theorem State.becomeIsolated_sc (s : State) : s.becomeIsolated.sc = { s.sc with state := .isolated, isoCount := 0 } := by
  simp [State.becomeIsolated, State.toState_sc]

theorem State.becomeNight_sc (s : State) : s.becomeNight.sc = { s.sc with state := .night } := by
  simp [State.becomeNight, State.toState_sc]

theorem State.leaveIsolated_sc (s : State) :
    s.leaveIsolated.sc = { s.sc with state := if s.src.stowNight then .night else .operating } := by
  simp [State.leaveIsolated, State.toState_sc]

/-- R185, R187, R189, R191: the first test that holds decides the station state and the iso count. -/
theorem State.stationTests_sc (s : State) : s.stationTests.sc =
    if s.silentDecided then { s.sc with state := .silent, isoCount := 0 }
    else if s.isolatedDecided then { s.sc with state := .isolated, isoCount := 0 }
    else if s.nightDecided then { s.sc with state := .night, isoCount := s.nextIsoCount }
    else s.otherwiseDecided.sc := by
  simp only [State.stationTests]
  split_ifs
  · exact s.becomeSilent_sc
  · exact s.becomeIsolated_sc
  · exact s.storeIsoCount.becomeNight_sc
  · rfl

/-- R185, R186: the row of SYNCING. -/
theorem State.stationTests_sc_of_syncing (h : s.sc.state = .syncing) : s.stationTests.sc =
    if s.bi.heardOwnSlot then { s.sc with state := .silent, isoCount := 0 }
    else if s.sc.listen then { s.sc with state := .operating, listen := false }
    else { s.sc with state := .syncing, listen := true } := by
  rw [State.stationTests_sc]
  simp only [State.silentDecided, State.isolatedDecided, State.nightDecided, State.otherwiseDecided, h]
  cases s.bi.heardOwnSlot with
  | true => rfl
  | false =>
    cases s.sc.listen with
    | true => exact State.toState_sc _ .operating
    | false => rfl

/-- R185, R187, R189: the row of OPERATING. -/
theorem State.stationTests_sc_of_operating (h : s.sc.state = .operating) : s.stationTests.sc =
    if s.runReached then { s.sc with state := .silent, isoCount := 0 }
    else if s.isoReached then { s.sc with state := .isolated, isoCount := 0 }
    else if s.rs.nightCount = 8 then { s.sc with state := .night, isoCount := s.nextIsoCount }
    else { s.sc with state := .operating, isoCount := s.nextIsoCount } := by
  rw [State.stationTests_sc]
  simp only [State.silentDecided, State.isolatedDecided, State.nightDecided, State.otherwiseDecided,
    State.storeIsoCount, h]
  cases s.runReached with
  | true => rfl
  | false =>
    cases s.isoReached with
    | true => rfl
    | false => simp

/-- R185, R187: the row of NIGHT. -/
theorem State.stationTests_sc_of_night (h : s.sc.state = .night) : s.stationTests.sc =
    if s.runReached then { s.sc with state := .silent, isoCount := 0 }
    else if s.isoReached then { s.sc with state := .isolated, isoCount := 0 }
    else { s.sc with state := .night, isoCount := s.nextIsoCount } := by
  rw [State.stationTests_sc]
  simp only [State.silentDecided, State.isolatedDecided, State.nightDecided, State.otherwiseDecided,
    State.storeIsoCount, h]
  cases s.runReached with
  | true => rfl
  | false => cases s.isoReached <;> rfl

/-- R187: the iso count is counted on in OPERATING and NIGHT, and is 0 on leaving them for SILENT or ISOLATED. -/
theorem State.stationTests_isoCount (h : s.sc.state = .operating ∨ s.sc.state = .night) :
    s.stationTests.sc.isoCount = if s.runReached || s.isoReached then 0 else s.nextIsoCount := by
  obtain operating | night := h
  · rw [State.stationTests_sc_of_operating operating]
    simp only [apply_ite StationController.isoCount, ite_self, Bool.or_eq_true, ite_or]
  · rw [State.stationTests_sc_of_night night]
    simp only [apply_ite StationController.isoCount, Bool.or_eq_true, ite_or]

/-- R185, R188: the row of ISOLATED. -/
theorem State.stationTests_sc_of_isolated (h : s.sc.state = .isolated) : s.stationTests.sc =
    if s.runReached then { s.sc with state := .silent, isoCount := 0 }
    else if s.bi.heardEpoch then { s.sc with state := if s.src.stowNight then .night else .operating }
    else s.sc := by
  rw [State.stationTests_sc]
  simp only [State.silentDecided, State.isolatedDecided, State.nightDecided, State.otherwiseDecided, h]
  cases s.runReached with
  | true => rfl
  | false =>
    cases s.bi.heardEpoch with
    | true => exact s.leaveIsolated_sc
    | false => rfl

/-- R185, R191: no test of an epoch start leads out of SILENT. -/
theorem State.stationTests_of_silent (h : s.sc.state = .silent) : s.stationTests = s := by
  simp [State.stationTests, State.silentDecided, State.isolatedDecided, State.nightDecided, State.otherwiseDecided, h]

theorem State.testEpoch_sc (s : State) : s.testEpoch.sc = s.stationTests.sc := s.change_sc _

/-- R185: what an epoch start has settled before the tests stands after them. -/
theorem State.testEpoch_settled (s : State) : s.testEpoch.bi.collisionRun = s.bi.collisionRun ∧
    s.testEpoch.bi.busLost = s.bi.busLost ∧ s.testEpoch.rs.nightCount = s.rs.nightCount := by
  have tested : State.Governed s (s.change State.stationTests) := .change (.stationTests s)
  simp only [State.testEpoch, BusInterface.clearHeard]
  exact ⟨by rw [tested.bus], by rw [tested.bus], tested.nightCount⟩

/-- Settles O26: either row comes to the tests with the station state, the heard flags and the NIGHT source as they were, and
there the row of the state decides. -/
theorem epochStartTests : Obligations.EpochStartTests := by
  intro b c s t running row h day run count iso
  obtain ⟨r, view, rfl⟩ := exec_epochStart_tested running row h day
  obtain ⟨collisions, lost, nights⟩ := r.testEpoch_settled
  simp only [State.testView, Prod.mk.injEq] at view
  obtain ⟨sc, cfg, source, heard, own⟩ := view
  have reached : r.runReached = run := by simp only [State.runReached, run, collisions]
  have counted : r.nextIsoCount = count := by simp only [State.nextIsoCount, count, lost, sc]
  have lapsed : r.isoReached = iso := by simp only [State.isoReached, counted, iso, lost, cfg]
  rw [State.testEpoch_sc, nights, ← sc, ← source, ← heard, ← own]
  refine ⟨fun syncing => ?_, fun syncing unheard waits => ?_, fun operating => ?_, fun night => ?_, fun counts => ?_,
    fun isolated => ?_, fun silent => ?_⟩
  · rw [State.stationTests_sc_of_syncing syncing]
    split_ifs <;> rfl
  · rw [State.stationTests_sc_of_syncing syncing, unheard, waits]
    rfl
  · rw [State.stationTests_sc_of_operating operating, reached, lapsed]
    split_ifs <;> rfl
  · rw [State.stationTests_sc_of_night night, reached, lapsed]
    split_ifs <;> rfl
  · rw [State.stationTests_isoCount counts, reached, lapsed, counted]
  · rw [State.stationTests_sc_of_isolated isolated, reached]
    split_ifs
    · rfl
    · rfl
    · rfl
    · exact isolated
  · rw [State.stationTests_of_silent silent, silent]

end Sys2Proof.Machine
end

section
/-! The latches of the Alert Unit through what the rows are made of (R196, R197, R199): which operations keep them, and which
changes set them. -/

namespace Sys2Proof.Machine

/-! ## Latches that CLEAR-ALERTS leaves (R197, R199) -/

/-- R199: the latches that are set and not published. A CLEAR-ALERTS later in the same frame leaves them. -/
def AlertUnit.unpublished (au : AlertUnit) : BitVec 16 := au.latches &&& ~~~au.published

/-- R197: an observed change latches each enabled condition that it changes, unpublished, and every unpublished latch stands. -/
theorem AlertUnit.latch_unpublished (au : AlertUnit) (before after : BitVec 16) :
    (au.latch before after).unpublished = au.unpublished ||| ((before ^^^ after) &&& au.enable) := by
  simp only [AlertUnit.unpublished, AlertUnit.latch]
  generalize (before ^^^ after) &&& au.enable = changed
  ext k hk
  simp only [BitVec.getElem_and, BitVec.getElem_or, BitVec.getElem_not]
  cases au.latches[k] <;> cases au.published[k] <;> cases changed[k] <;> rfl

/-- R199: CLEAR-ALERTS clears published latches alone. -/
theorem AlertUnit.clearPublished_unpublished (au : AlertUnit) : au.clearPublished.unpublished = au.unpublished := by
  have unmarked : ~~~(0 : BitVec 16) = BitVec.allOnes 16 := rfl
  simp only [AlertUnit.unpublished, AlertUnit.clearPublished, unmarked, BitVec.and_allOnes]

/-! ## One state after another -/

/-- From one state to another, where the station runs afterwards: it ran before, the mask is the same, and every unpublished
latch stands. What is done within one change is of this kind: the Alert Unit has yet to see it. -/
structure State.AlertKept (s t : State) : Prop where
  stands : t.running = true → s.running = true ∧ t.au.enable = s.au.enable ∧
    ∀ k, s.au.unpublished.getLsbD k = true → t.au.unpublished.getLsbD k = true

/-- And every enabled condition that differs between the two states has its latch set, and not published. -/
structure State.Alerted (s t : State) : Prop where
  kept : State.AlertKept s t
  latched : t.running = true → ∀ k, s.au.enable.getLsbD k = true →
    s.conditions.getLsbD k ≠ t.conditions.getLsbD k → t.au.unpublished.getLsbD k = true

/-- What the latches rest on beside the conditions. -/
def State.alertView (s : State) : StationController × BitVec 16 × BitVec 16 := (s.sc, s.au.enable, s.au.unpublished)

variable {s t u : State}

namespace State.AlertKept

/-- An operation that leaves the Alert Unit's mask and unpublished latches, in a station that runs as before. -/
theorem of_running (run : t.running = true → s.running = true) (enable : t.au.enable = s.au.enable)
    (unpublished : t.au.unpublished = s.au.unpublished) : State.AlertKept s t :=
  ⟨fun running => ⟨run running, enable, fun k set => by rwa [unpublished]⟩⟩

/-- An operation on other registers alone. -/
theorem of_same (same : t.alertView = s.alertView) : State.AlertKept s t := by
  simp only [State.alertView, Prod.mk.injEq] at same
  obtain ⟨sc, enable, unpublished⟩ := same
  exact of_running (by rw [State.running_congr sc]; exact id) enable unpublished

protected theorem refl (s : State) : State.AlertKept s s := of_same rfl

protected theorem trans (a : State.AlertKept s t) (b : State.AlertKept t u) : State.AlertKept s u := by
  refine ⟨fun running => ?_⟩
  obtain ⟨between, enable, stand⟩ := b.stands running
  obtain ⟨before, enable', stand'⟩ := a.stands between
  exact ⟨before, enable.trans enable', fun k set => stand k (stand' k set)⟩

end State.AlertKept

namespace State.Alerted

/-- An operation that leaves the conditions. -/
theorem of_conditions (kept : State.AlertKept s t) (conditions : t.conditions = s.conditions) : State.Alerted s t :=
  ⟨kept, fun _ _ _ differ => absurd (by rw [conditions]) differ⟩

/-- An operation on other registers alone. -/
theorem of_same (same : t.alertView = s.alertView) (conditions : t.conditions = s.conditions) : State.Alerted s t :=
  of_conditions (.of_same same) conditions

/-- An operation that leaves a reset or a load to come. -/
theorem of_stopped (stopped : t.running = false) : State.Alerted s t := by
  have absent {p : Prop} (running : t.running = true) : p := by rw [stopped] at running; cases running
  exact ⟨⟨absent⟩, absent⟩

protected theorem refl (s : State) : State.Alerted s s := of_same rfl rfl

/-- A condition that differs at the end has differed in one of two parts; the second part leaves the latches of the first. -/
protected theorem trans (a : State.Alerted s t) (b : State.Alerted t u) : State.Alerted s u := by
  refine ⟨a.kept.trans b.kept, fun running k enabled differ => ?_⟩
  obtain ⟨between, enable, stand⟩ := b.kept.stands running
  obtain ⟨-, enable', -⟩ := a.kept.stands between
  by_cases later : t.conditions.getLsbD k = u.conditions.getLsbD k
  · exact stand k (a.latched between k enabled (later ▸ differ))
  · exact b.latched running k (by rw [enable']; exact enabled) later

/-- R197: a change is seen by the Alert Unit, whatever it has done to the conditions. -/
theorem change {f : State → State} (k : State.AlertKept s (f s)) : State.Alerted s (s.change f) := by
  have run : (s.change f).running = (f s).running := State.running_congr (State.change_sc ..)
  have seen (running : (f s).running = true) : s.running = true ∧ (f s).au.enable = s.au.enable ∧
      (∀ k, s.au.unpublished.getLsbD k = true → (f s).au.unpublished.getLsbD k = true) ∧
      s.change f = (f s).withAu ((f s).au.latch s.conditions (f s).conditions) := by
    obtain ⟨before, enable, stand⟩ := k.stands running
    exact ⟨before, enable, stand, State.change_withAu before running⟩
  refine ⟨⟨fun running => ?_⟩, fun running k enabled differ => ?_⟩
  all_goals obtain ⟨before, enable, stand, observed⟩ := seen (run.symm.trans running)
  · refine ⟨before, by rw [observed]; exact enable, fun k set => ?_⟩
    rw [observed, State.withAu_au, AlertUnit.latch_unpublished, BitVec.getLsbD_or, stand k set, Bool.true_or]
  · rw [observed, State.withAu_conditions] at differ
    rw [observed, State.withAu_au, AlertUnit.latch_unpublished, BitVec.getLsbD_or, BitVec.getLsbD_and, BitVec.getLsbD_xor,
      enable, enabled, Bool.and_true, Bool.xor_iff_ne.2 differ, Bool.or_true]

theorem ifRunning {f : State → State} (k : State.Alerted s (f s)) : State.Alerted s (s.ifRunning f) := by
  simp only [State.ifRunning]
  split
  · exact k
  · exact .refl s

theorem unlessReset {f : State → State} (k : State.Alerted s (f s)) : State.Alerted s (s.unlessReset f) := by
  simp only [State.unlessReset]
  split
  · exact .refl s
  · exact k

theorem unlessCut {f : State → State} (k : State.Alerted s (f s)) : State.Alerted s (s.unlessCut f) := by
  simp only [State.unlessCut]
  split
  · exact .refl s
  · exact unlessReset k

theorem count (s : State) (f : Counters → Counters) : State.Alerted s (s.count f) := of_same rfl rfl

theorem answer (s : State) (k hf : Byte) (r : Result) : State.Alerted s (s.answer k hf r) :=
  of_same rfl (State.answer_conditions ..)

theorem takeCommand {k hf : Byte} {f : State → Result × State} (h : State.AlertKept s (f s).2) :
    State.Alerted s (s.takeCommand k hf f) := (change (f := fun s => (f s).2) h).trans (answer ..)

end State.Alerted

/-! ## The end of an own frame and changes of the station state (R97, R100, R185 to R191) -/

/-- R101, R196: no condition reads a deferred placement. -/
theorem State.discardFrame_conditions (s : State) : s.discardFrame.conditions = s.conditions :=
  s.conditions_bank (v := s.discardFrame.helios) fun i => by
    rw [Fin.getElem_fin, State.discardFrame_helio]
    exact ⟨rfl, rfl, rfl, rfl, rfl⟩

theorem State.Alerted.cutFrame (s : State) : State.Alerted s s.cutFrame := by
  obtain ⟨-, e⟩ | ⟨-, e⟩ | ⟨-, e⟩ := s.cutFrame_cases <;> rw [e]
  · exact .refl s
  · exact .of_same rfl s.discardFrame_conditions
  · exact .of_same rfl s.discardFrame_conditions

namespace State.AlertKept

/-- The station controller replaced, neither reset input in it. -/
theorem withSc (loaded : s.sc.state.loaded = true) {sc : StationController} (powerOn : sc.inPowerOn = s.sc.inPowerOn)
    (resetn : sc.inResetn = s.sc.inResetn) : State.AlertKept s { s with sc := sc } := by
  refine of_running (fun running => (State.running_iff s).2 ⟨?_, loaded⟩) rfl rfl
  have free := ((State.running_iff _).1 running).1
  simp only [State.inReset, powerOn, resetn] at free ⊢
  exact free

/-- A change among the states that follow a load. -/
theorem toState (loaded : s.sc.state.loaded = true) (new : StationState) : State.AlertKept s (s.toState new) := by
  have moved : State.AlertKept s { s with sc := { s.sc with state := new }, irm := s.irm.follow s.sc.state new } :=
    (withSc loaded (sc := { s.sc with state := new }) rfl rfl).trans (of_same rfl)
  simp only [State.toState]
  split
  · exact moved
  · exact moved.trans (State.Alerted.cutFrame _).kept

theorem becomeSilent (loaded : s.sc.state.loaded = true) : State.AlertKept s s.becomeSilent := by
  refine (toState loaded .silent).trans ?_
  simp only [State.becomeSilent]
  generalize s.toState .silent = t
  exact of_running id rfl rfl

theorem becomeIsolated (loaded : s.sc.state.loaded = true) : State.AlertKept s s.becomeIsolated := by
  refine (toState loaded .isolated).trans ?_
  simp only [State.becomeIsolated]
  generalize s.toState .isolated = t
  exact of_running id rfl rfl

theorem becomeNight (loaded : s.sc.state.loaded = true) : State.AlertKept s s.becomeNight :=
  (toState loaded .night).trans (of_same rfl)

theorem leaveIsolated (loaded : s.sc.state.loaded = true) : State.AlertKept s s.leaveIsolated :=
  (toState loaded (if s.src.stowNight then .night else .operating)).trans (of_same rfl)

theorem storeIsoCount (s : State) : State.AlertKept s s.storeIsoCount := of_running id rfl rfl

theorem otherwiseDecided (s : State) : State.AlertKept s s.otherwiseDecided := by
  simp only [State.otherwiseDecided]
  split
  · rename_i syncing
    split
    · refine .trans (t := { s with sc := { s.sc with listen := false } }) (of_running id rfl rfl) (toState ?_ _)
      rw [syncing]
      rfl
    · exact of_running id rfl rfl
  · exact storeIsoCount s
  · exact storeIsoCount s
  · rename_i isolated
    split
    · exact leaveIsolated (by rw [isolated]; rfl)
    · exact .refl s
  all_goals exact .refl s

theorem enterNight (decided : s.nightDecided = true) : State.AlertKept s s.storeIsoCount.becomeNight :=
  (storeIsoCount s).trans (becomeNight (congrArg StationState.loaded (State.Kept.nightDecided_state decided)))

theorem stationTests (s : State) : State.AlertKept s s.stationTests := by
  simp only [State.stationTests]
  split_ifs with silent isolated night
  · exact becomeSilent (State.Kept.silentDecided_loaded silent)
  · exact becomeIsolated (State.Kept.isolatedDecided_state isolated).1
  · exact enterNight night
  · exact otherwiseDecided s

end State.AlertKept
end Sys2Proof.Machine
end

section
/-! The latches through the command entries, the frames and the own frame (R90 to R107, R197, R199). -/

namespace Sys2Proof.Machine

variable {s t u : State}

namespace State.AlertKept

/-! ## Command entries -/

theorem stationWide {f : State → Result × State} (hf : Byte) (k : State.AlertKept s (f s).2) :
    State.AlertKept s (stationWide hf f s).2 := by
  simp only [Machine.stationWide]
  split
  · exact k
  · exact .refl s

theorem stowField (s : State) : State.AlertKept s (stowFieldEffect s).2 := of_same rfl

theorem stowRelease (s : State) : State.AlertKept s (stowReleaseEffect s).2 := by
  rw [stowReleaseEffect_eq]
  split <;> exact of_same rfl

theorem standbySet (s : State) : State.AlertKept s (standbySetEffect s).2 := of_same rfl

theorem standbyClear (s : State) : State.AlertKept s (standbyClearEffect s).2 := by
  simp only [standbyClearEffect]
  split <;> exact of_same rfl

theorem hold (hf : Byte) (t : Steps) (s : State) : State.AlertKept s (holdEffect hf t s).2 := by
  simp only [holdEffect]
  split
  · exact .refl s
  · split <;> exact of_same rfl

theorem holdRelease (hf : Byte) (s : State) : State.AlertKept s (holdReleaseEffect hf s).2 := by
  simp only [holdReleaseEffect]
  split
  · exact .refl s
  · split <;> exact of_same rfl

theorem serviceOut (hf : Byte) (s : State) : State.AlertKept s (serviceOutEffect hf s).2 := by
  simp only [serviceOutEffect]
  split
  · exact .refl s
  · split <;> exact of_same rfl

/-- R15: the two changes within a SERVICE-IN leave the latches that stand. -/
theorem serviceIn (hf : Byte) (s : State) : State.AlertKept s (serviceInEffect hf s).2 := by
  simp only [serviceInEffect]
  split
  · exact .refl s
  · rename_i i _
    split_ifs
    · exact .refl s
    · exact .refl s
    · have entered := State.Alerted.change (s := s) (f := fun s => s.updateHelio i Helio.takeIn) (of_same rfl)
      have started := State.Alerted.change (s := s.change fun s => s.updateHelio i Helio.takeIn)
        (f := fun s => s.updateHelio i Helio.homingStart) (of_same rfl)
      exact (entered.trans started).kept.trans (of_same rfl)

theorem correct (hf : Byte) (x y : Int) (s : State) : State.AlertKept s (correctEffect hf x y s).2 := by
  simp only [correctEffect]
  split
  · exact .refl s
  · split <;> exact of_same rfl

theorem rehomeAll (s : State) : State.AlertKept s s.rehomeAll := by
  rw [State.rehomeAll_frame]
  generalize s.rehomeAll.helios = v
  exact of_same rfl

theorem rehome (hf : Byte) (s : State) : State.AlertKept s (rehomeEffect hf s).2 := by
  simp only [rehomeEffect]
  split
  · dsimp only
    exact rehomeAll s
  · split
    · exact .refl s
    · split <;> exact of_same rfl

/-- R130, R131: a move of the code state. -/
theorem codeTo (on : Bool) (s : State) : State.AlertKept s (s.codeTo on) := by
  simp only [State.codeTo]
  split <;> exact of_same rfl

theorem activateCode (s : State) : State.AlertKept s s.activateCode := codeTo true s

theorem releaseCode (s : State) : State.AlertKept s s.releaseCode := by
  rw [State.releaseCode_eq]
  exact codeTo false s

theorem defocusRelease (s : State) : State.AlertKept s (defocusReleaseEffect s).2 := by
  simp only [defocusReleaseEffect]
  split_ifs
  · exact .refl s
  · exact releaseCode s
  · exact .refl s

theorem clearAlerts (s : State) : State.AlertKept s (clearAlertsEffect s).2 :=
  of_running id rfl s.au.clearPublished_unpublished

theorem clearSticky (s : State) : State.AlertKept s (clearStickyEffect s).2 := of_running id rfl rfl

theorem report (hf : Byte) (s : State) : State.AlertKept s (reportEffect hf s).2 := by
  simp only [reportEffect]
  repeat' split
  all_goals exact of_same rfl

/-! ## What a frame changes (R119, R141 to R148, R191) -/

theorem takeReceiver (state : Byte) (zones : List ZoneReading) (s : State) :
    State.AlertKept s (s.takeReceiver state zones) := by
  simp only [State.takeReceiver]
  split <;> exact of_same rfl

theorem lookUpPeer (station : Nat) (items : List PlanItem) (s : State) : State.AlertKept s (s.lookUpPeer station items) := by
  rw [State.lookUpPeer_frame]
  exact of_same rfl

theorem hearOwnNumber (s : State) : State.AlertKept s s.hearOwnNumber := by
  have heard : State.AlertKept s { s with bi := { s.bi with heardOwnSlot := true } } := of_same rfl
  simp only [State.hearOwnNumber]
  split
  · rename_i h
    refine heard.trans (becomeSilent ?_)
    revert h
    cases e : s.sc.state <;> simp [StationState.sends, StationState.loaded, State.listensFromNow, e]
  · exact heard

/-- R162, R173: the Flux Allocator at a build. -/
theorem supplyPlan (s : State) : State.AlertKept s s.supplyPlan := by
  simp only [State.supplyPlan]
  split <;> exact of_same rfl

end State.AlertKept

namespace State.Alerted

/-! ## Entries of a COMMAND frame and frames (R90 to R94, R102) -/

/-- R193: a RESTART with 0xFF leaves a station that does not run. -/
theorem restart (hf : Byte) (s : State) : State.Alerted s (s.restart hf) := by
  simp only [State.restart]
  split
  · exact of_stopped (Bool.and_false _)
  · exact answer ..

theorem takeEntry (s : State) (e : CommandEntry) : State.Alerted s (s.takeEntry e) := by
  simp only [State.takeEntry]
  split
  · exact takeCommand (.stationWide _ (.stowField _))
  · exact takeCommand (.stationWide _ (.stowRelease _))
  · exact takeCommand (.stationWide _ (.standbySet _))
  · exact takeCommand (.stationWide _ (.standbyClear _))
  · exact takeCommand (.hold ..)
  · exact takeCommand (.holdRelease ..)
  · exact takeCommand (.serviceOut ..)
  · exact takeCommand (.serviceIn ..)
  · exact takeCommand (.correct ..)
  · exact takeCommand (.rehome ..)
  · exact takeCommand (.stationWide _ (.defocusRelease _))
  · exact takeCommand (.stationWide _ (.clearAlerts _))
  · exact takeCommand (.stationWide _ (.clearSticky _))
  · exact takeCommand (.report ..)
  · exact restart ..
  · exact answer ..

/-- R102, R199: what the entries before a CLEAR-ALERTS have latched in the same frame is not published, so it stands. -/
theorem takeEntries (s : State) (es : List CommandEntry) : State.Alerted s (s.takeEntries es) := by
  induction es generalizing s with
  | nil => exact .refl s
  | cons e rest ih =>
    simp only [State.takeEntries]
    split_ifs
    · exact takeEntry s e
    · exact (takeEntry s e).trans (ih _)
    · exact ih s

theorem takeFrame (slot : Nat) (body : FrameBody) (s : State) : State.Alerted s (s.takeFrame slot body) := by
  have heard : State.Alerted s (s.change State.hear) := change (.of_same rfl)
  cases body <;> simp only [State.takeFrame]
  case sun => exact heard.trans (of_same rfl rfl)
  case receiver => exact heard.trans (change (.takeReceiver ..))
  case command es => exact heard.trans (takeEntries ..)
  case contribution =>
    split
    · exact heard.trans (change (.hearOwnNumber _))
    · exact heard.trans (change (.lookUpPeer ..))

theorem receiveBody (slot : Nat) (body : FrameBody) (s : State) : State.Alerted s (s.receiveBody slot body) := by
  simp only [State.receiveBody]
  repeat' split
  · exact count ..
  · exact takeFrame ..
  · exact .refl s

theorem receiveRaw (raw : RawFrame) (s : State) : State.Alerted s (s.receiveRaw raw) := by
  simp only [State.receiveRaw]
  repeat' split
  · exact count ..
  · exact takeFrame ..
  · exact .refl s

/-! ## The own frame (R95 to R97) -/

theorem buildFrame (s : State) : State.Alerted s s.buildFrame :=
  (change (.supplyPlan s)).trans (of_same rfl rfl)

theorem frameStart (s : State) : State.Alerted s s.frameStart := by
  simp only [State.frameStart]
  split_ifs
  · exact of_same rfl rfl
  · exact cutFrame s
  · exact .refl s

theorem echoAbort (s : State) : State.Alerted s s.echoAbort := (cutFrame s).trans (of_same rfl rfl)

end State.Alerted

/-- R174, R196: no condition reads an assignment. -/
theorem State.completeFrame_conditions (s : State) : s.completeFrame.conditions = s.conditions :=
  s.conditions_bank (v := mapEach (fun _ h => h.applyPlacement) s.helios) fun i => by
    rw [Fin.getElem_fin, getElem_mapEach]
    simp only [Helio.applyPlacement]
    split <;> exact ⟨rfl, rfl, rfl, rfl, rfl⟩

end Sys2Proof.Machine
end

section
/-! The latches through the ticks, the epochs, the code, the axes and the pins (R19 to R22, R44 to R58, R80 to R100, R127 to
R136, R185 to R191, R197). -/

namespace Sys2Proof.Machine

variable {s t u : State}

namespace State.AlertKept

theorem updateSunSource (lost : Bool) (s : State) : State.AlertKept s (s.updateSunSource lost) := by
  simp only [State.updateSunSource]
  split <;> exact of_same rfl

theorem dawnRehome (s : State) : State.AlertKept s s.dawnRehome := by
  simp only [State.dawnRehome]
  split
  · exact rehomeAll s
  · exact .refl s

theorem busLostTest (s : State) : State.AlertKept s s.busLostTest := by
  simp only [State.busLostTest]
  split <;> exact of_same rfl

theorem countSlot (s : State) : State.AlertKept s s.countSlot := by
  rw [State.countSlot_eq]
  exact of_same rfl

theorem rxStaleTest (s : State) : State.AlertKept s s.rxStaleTest := by
  simp only [State.rxStaleTest]
  split <;> exact of_same rfl

theorem markLostTest (s : State) : State.AlertKept s s.markLostTest := by
  simp only [State.markLostTest]
  split <;> exact of_same rfl

theorem startGeneration (s : State) : State.AlertKept s s.startGeneration := by
  simp only [State.startGeneration]
  refine (State.Alerted.cutFrame s).kept.trans ?_
  generalize s.cutFrame = t
  refine .trans ?_ (activateCode _)
  exact of_same rfl

theorem axisStep (i : Fin 8) (a : AxisId) (s : State) : State.AlertKept s (s.axisStep i a) := by
  simp only [State.axisStep]
  split <;> exact of_same rfl

theorem homefail (i : Fin 8) (a : AxisId) (s : State) : State.AlertKept s (s.homefail i a) := by
  simp only [State.homefail]
  split <;> exact of_same rfl

theorem indexRise (i : Fin 8) (a : AxisId) (s : State) : State.AlertKept s (s.indexRise i a) := by
  simp only [State.indexRise]
  split_ifs <;> exact of_same rfl

end State.AlertKept

/-- R53, R196: no condition reads the level of an index input. -/
theorem State.setIndex_conditions (s : State) (i : Fin 8) (a : AxisId) (level : Bool) :
    ({ s with helios := s.helios.set i (s.helios[i].setIndex a level) } : State).conditions = s.conditions := by
  cases a <;> exact s.conditions_set i rfl rfl rfl rfl rfl

/-- R160, R196: a pulse leaves CLOUDED. -/
theorem IrradianceMonitor.pulse_clouded (irm : IrradianceMonitor) : irm.pulse.clouded = irm.clouded := by
  simp only [IrradianceMonitor.pulse]
  split <;> rfl

namespace State.Alerted

/-! ## Turns and aim ticks (R19 to R22, R116, R118) -/

theorem takeTurns (sun : Vec3) (l : List (Fin 8)) (s : State) : State.Alerted s (s.takeTurns sun l) := by
  induction l generalizing s with
  | nil => exact .refl s
  | cons i rest ih => exact (change (f := fun s => s.takeTurn sun i) (.of_same rfl)).trans (ih _)

theorem continueTick (p : TickProgress) (stop : Nat) (s : State) : State.Alerted s (s.continueTick p stop) := by
  simp only [State.continueTick]
  exact (takeTurns ..).trans (of_same rfl rfl)

theorem finishTick (s : State) : State.Alerted s s.finishTick := by
  simp only [State.finishTick]
  split
  · exact continueTick ..
  · exact .refl s

/-- R118, R190: the dawn is three changes, each seen. -/
theorem dawn (night : s.sc.state = .night) : State.Alerted s s.dawn := by
  have counted : State.Alerted s { s with rs := { s.rs with nightCount := 0 } } := of_same rfl rfl
  have still : ({ s with rs := { s.rs with nightCount := 0 } } : State).sc.state = .night := night
  simp only [State.dawn]
  generalize ({ s with rs := { s.rs with nightCount := 0 } } : State) = t at counted still
  have rehomed : State.Alerted t (t.change State.dawnRehome) := change (.dawnRehome t)
  have loaded : (t.change State.dawnRehome).sc.state.loaded = true := by
    rw [State.change_sc, State.dawnRehome_sc, still]
    rfl
  generalize t.change State.dawnRehome = u at rehomed loaded
  have withdrawn : State.Alerted u (u.change fun s => s.setSources fun src => { src with stowNight := false }) :=
    change (.of_same rfl)
  refine counted.trans (rehomed.trans (withdrawn.trans (change (.toState ?_ .operating))))
  rw [State.change_sc]
  exact loaded

theorem beginTurns (sun : Vec3) (stop : Nat) (s : State) : State.Alerted s (s.beginTurns sun stop) := by
  simp only [State.beginTurns]
  split
  · exact continueTick ..
  · exact .refl s

theorem evaluateTick (sun : Option Vec3) (stop : Nat) (s : State) : State.Alerted s (s.evaluateTick sun stop) := by
  have told : State.Alerted s (s.change fun s => s.updateSunSource sun.isNone) := change (.updateSunSource ..)
  simp only [State.evaluateTick]
  generalize (s.change fun s => s.updateSunSource sun.isNone) = t at told
  split
  · exact told
  · split
    · rename_i met
      simp only [State.dawnMet, Bool.and_eq_true, beq_iff_eq] at met
      exact told.trans ((dawn met.1).trans (beginTurns ..))
    · exact told.trans (beginTurns ..)

theorem startTick (offset stop : Nat) (s : State) : State.Alerted s (s.startTick offset stop) := by
  simp only [State.startTick]
  split
  · exact .trans (t := s.tickTaken offset) (of_same rfl rfl) (evaluateTick ..)
  · exact .refl s

theorem aimTick (offset stop : Nat) (s : State) : State.Alerted s (s.aimTick offset stop) := by
  simp only [State.aimTick]
  repeat' split
  · exact continueTick ..
  · exact startTick ..
  · exact .refl s

/-! ## Slots, epochs and marks (R87 to R100) -/

theorem settleOwnSlot (s : State) : State.Alerted s s.settleOwnSlot := by
  rw [State.settleOwnSlot_eq]
  exact of_same rfl rfl

theorem startSlot (slot : Nat) (s : State) : State.Alerted s (s.startSlot slot) := by
  have entered : State.Alerted s ({ s with bi := s.bi.enterSlot slot } : State).settleOwnSlot :=
    .trans (t := { s with bi := s.bi.enterSlot slot }) (of_same rfl rfl) (settleOwnSlot _)
  simp only [State.startSlot]
  generalize ({ s with bi := s.bi.enterSlot slot } : State).settleOwnSlot = t at entered
  have counted : State.Alerted t (t.change State.countSlot) := change (.countSlot t)
  generalize t.change State.countSlot = u at counted
  split_ifs
  · exact entered.trans (counted.trans (of_same rfl rfl))
  · exact entered.trans counted
  · exact entered

theorem handEpoch (s : State) : State.Alerted s s.handEpoch := by
  have counted : State.Alerted s (s.change State.countSlot) := change (.countSlot s)
  simp only [State.handEpoch]
  generalize s.change State.countSlot = t at counted
  refine counted.trans (.trans (t := ({ t with bi := t.bi.settleRun } : State).expireSuns) (of_same rfl rfl) ?_)
  generalize ({ t with bi := t.bi.settleRun } : State).expireSuns = u
  exact (change (.rxStaleTest u)).trans (of_same rfl rfl)

theorem epochStartTick (first : Bool) (s : State) : State.Alerted s (s.epochStartTick first) := by
  have left : State.Alerted s s.leaveTickDue := of_same rfl rfl
  simp only [State.epochStartTick]
  split
  · exact left.trans (startTick ..)
  · exact left

theorem testEpoch (s : State) : State.Alerted s s.testEpoch := (change (.stationTests s)).trans (of_same rfl rfl)

theorem makeEpochStart (first : Bool) (s : State) : State.Alerted s (s.makeEpochStart first) := by
  have scheduled : State.Alerted s s.scheduleTicks := of_same rfl rfl
  simp only [State.makeEpochStart]
  split
  · exact scheduled.trans ((finishTick _).trans ((handEpoch _).trans ((epochStartTick ..).trans (testEpoch _))))
  · exact scheduled

theorem wrap (first : Bool) (s : State) : State.Alerted s (s.wrap first) := by
  simp only [State.wrap]
  refine (settleOwnSlot s).trans ?_
  generalize s.settleOwnSlot = t
  exact .trans (t := { t with bi := { t.bi.newEpoch with markWindow := true } }) (of_same rfl rfl) (makeEpochStart ..)

theorem markEpoch (first : Bool) (s : State) : State.Alerted s (s.markEpoch first) := by
  simp only [State.markEpoch]
  refine (cutFrame s).trans ((settleOwnSlot _).trans ?_)
  generalize s.cutFrame.settleOwnSlot = t
  exact .trans (t := { t with bi := { t.bi.newEpoch with timerInstant := t.bi.timerInstant.cutDue } }) (of_same rfl rfl)
    ((count ..).trans (makeEpochStart ..))

theorem timeMark (first : Bool) (s : State) : State.Alerted s (s.timeMark first) := by
  have marked : State.Alerted s (s.change fun s => { s with bi := s.bi.marked }) := change (.of_same rfl)
  simp only [State.timeMark]
  generalize (s.change fun s => { s with bi := s.bi.marked }) = t at marked
  split
  · exact marked.trans (of_same rfl rfl)
  · exact marked.trans (markEpoch ..)

theorem closeWindow (s : State) : State.Alerted s s.closeWindow := by
  simp only [State.closeWindow]
  split
  · exact .trans (t := { s with bi := { s.bi with markWindow := false, missedMarks := min (s.bi.missedMarks + 1) 4 } })
      (of_same rfl rfl) (change (.markLostTest _))
  · exact .refl s

/-! ## The defocus code, the axes and the pins (R44 to R58, R80 to R82, R127 to R136) -/

/-- A bit received moves the code state at most once in each direction, each move seen. -/
theorem receiveBit (first bit : Bool) (s : State) : State.Alerted s (s.receiveBit first bit) := by
  have act (t : State) : State.Alerted t (if s.activateDetected bit then t.change State.activateCode else t) := by
    split
    · exact change (.activateCode t)
    · exact .refl t
  have rel (t : State) : State.Alerted t (if s.releaseDetected bit then t.change State.releaseCode else t) := by
    split
    · exact change (.releaseCode t)
    · exact .refl t
  have fed : State.Alerted s (s.feedBit bit) := of_same rfl (State.feedBit_conditions ..)
  simp only [State.receiveBit]
  split
  · split
    · exact fed.trans ((act _).trans (rel _))
    · exact fed.trans ((rel _).trans (act _))
  · exact .refl s

theorem endGeneration (s : State) : State.Alerted s s.endGeneration := by
  simp only [State.endGeneration]
  split <;> exact of_same rfl rfl

theorem stowInput (active : Bool) (s : State) : State.Alerted s (s.stowInput active) := by
  have shown : State.Alerted s { s with stowin := active } := of_same rfl rfl
  simp only [State.stowInput]
  split
  · exact shown.trans (change (.of_same rfl))
  · exact shown

theorem tripInput (active : Bool) (s : State) : State.Alerted s (s.tripInput active) := by
  have shown : State.Alerted s { s with tripin := active } := of_same rfl rfl
  simp only [State.tripInput]
  split
  · exact shown.trans (change (.startGeneration _))
  · exact shown

theorem indexEdge (i : Fin 8) (a : AxisId) (level : Bool) (s : State) : State.Alerted s (s.indexEdge i a level) := by
  have shown : State.Alerted s { s with helios := s.helios.set i (s.helios[i].setIndex a level) } :=
    of_same rfl (State.setIndex_conditions ..)
  simp only [State.indexEdge]
  split_ifs
  · exact shown.trans (change (.indexRise ..))
  · exact shown

theorem driveFault (i : Fin 8) (active : Bool) (s : State) : State.Alerted s (s.driveFault i active) := by
  have shown : State.Alerted s { s with helios := s.helios.set i { s.helios[i] with drvflt := active } } :=
    of_same rfl (s.conditions_set i rfl rfl rfl rfl rfl)
  simp only [State.driveFault]
  split
  · exact shown.trans (change (.of_same rfl))
  · exact shown

theorem dniPulse (s : State) : State.Alerted s { s with irm := s.irm.pulse } :=
  of_same rfl (State.conditions_congr rfl rfl rfl rfl rfl rfl rfl s.irm.pulse_clouded rfl rfl rfl)

end State.Alerted
end Sys2Proof.Machine
end

section
/-! The latches over every row (R196, R197). -/

namespace Sys2Proof.Machine

section Rows

variable {s t : State} {c : Instr}

/-- R197: what the Alert Unit owes a row that begins and ends in a running station. -/
structure State.Latching (s t : State) : Prop where
  latched : s.running = true → t.running = true → (s.conditions ^^^ t.conditions) &&& s.au.enable &&& ~~~t.au.latches = 0

/-- A row that leaves the conditions owes nothing. -/
theorem State.Latching.of_conditions (same : s.running = true → t.running = true → t.conditions = s.conditions) :
    State.Latching s t := by
  refine ⟨fun before after => ?_⟩
  rw [same before after, BitVec.xor_self, BitVec.zero_and, BitVec.zero_and]
  rfl

theorem State.Alerted.latching (a : State.Alerted s t) : State.Latching s t := by
  refine ⟨fun _ running => BitVec.eq_of_getLsbD_eq fun k hk => ?_⟩
  rw [BitVec.getLsbD_and, BitVec.getLsbD_and, BitVec.getLsbD_xor, BitVec.getLsbD_not]
  by_cases differ : s.conditions.getLsbD k = t.conditions.getLsbD k
  · simp [differ]
  · cases enabled : s.au.enable.getLsbD k with
    | false => simp
    | true =>
      have set := a.latched running k enabled differ
      rw [AlertUnit.unpublished, BitVec.getLsbD_and, Bool.and_eq_true] at set
      simp [set.1]

/-- R192: the end of a reset input, which no running station has in force, is no condition's change. -/
theorem State.Latching.loadIfReleased {sc : StationController} (state : sc.state = s.sc.state) (por : sc.por = s.sc.por)
    (w : BitVec 9) : State.Latching s ((s.strapsAt w).loadIfReleased { s.strapsAt w with sc := sc }) := by
  rw [State.loadIfReleased_eq]
  exact .of_conditions fun before after =>
    State.conditions_congr rfl rfl state (after.trans before.symm) rfl rfl rfl rfl rfl por rfl

/-- R192, R195: a reset that comes into force leaves a station that does not run. -/
theorem State.Latching.hardReset (s t : State) : State.Latching s t.hardReset := by
  have stopped : t.hardReset.running = false := Bool.and_false _
  exact (State.Alerted.of_stopped stopped).latching

/-- R197: whatever the row, the Alert Unit has seen each change of a condition. -/
theorem State.Latching.of_exec (h : exec c s = .next t) : State.Latching s t := by
  cases c <;> cases h
  case transmitCompletion =>
    refine .of_conditions fun running _ => ?_
    rw [State.ifRunning_of_running running]
    split
    · exact s.completeFrame_conditions
    · rfl
  case powerOnReset input =>
    simp only [State.powerOnReset]
    split
    · exact .hardReset ..
    · exact .loadIfReleased (sc := { s.sc with inPowerOn := false }) rfl rfl _
  case resetn input =>
    simp only [State.resetPin]
    split
    · exact .hardReset ..
    · exact .loadIfReleased (sc := { s.sc with inResetn := false }) rfl rfl _
  case loadEnd straps image =>
    refine .of_conditions fun running _ => ?_
    rw [if_neg]
    rintro ⟨loading, -⟩
    have loaded := ((State.running_iff s).1 running).2
    rw [loading] at loaded
    cases loaded
  all_goals refine State.Alerted.latching ?_
  case stowField => exact .ifRunning (.takeCommand (.stationWide _ (.stowField _)))
  case stowRelease => exact .ifRunning (.takeCommand (.stationWide _ (.stowRelease _)))
  case standbySet => exact .ifRunning (.takeCommand (.stationWide _ (.standbySet _)))
  case standbyClear => exact .ifRunning (.takeCommand (.stationWide _ (.standbyClear _)))
  case hold => exact .ifRunning (.takeCommand (.hold ..))
  case holdRelease => exact .ifRunning (.takeCommand (.holdRelease ..))
  case serviceOut => exact .ifRunning (.takeCommand (.serviceOut ..))
  case serviceIn => exact .ifRunning (.takeCommand (.serviceIn ..))
  case correct => exact .ifRunning (.takeCommand (.correct ..))
  case rehome => exact .ifRunning (.takeCommand (.rehome ..))
  case defocusRelease => exact .ifRunning (.takeCommand (.stationWide _ (.defocusRelease _)))
  case clearAlerts => exact .ifRunning (.takeCommand (.stationWide _ (.clearAlerts _)))
  case clearSticky => exact .ifRunning (.takeCommand (.stationWide _ (.clearSticky _)))
  case report => exact .ifRunning (.takeCommand (.report ..))
  case restart => exact .ifRunning (.restart ..)
  case reservedCommand =>
    refine .ifRunning ?_
    split
    · exact .answer ..
    · exact .refl _
  case sunFrame => exact .receiveBody ..
  case receiverFrame => exact .receiveBody ..
  case contributionFrame => exact .receiveBody ..
  case commandFrame => exact .receiveBody ..
  case ownNumberFrame =>
    split
    · exact .takeFrame ..
    · exact .refl _
  case frameDropped => exact .receiveRaw ..
  case epochStart => exact .unlessCut (.wrap ..)
  case timeMark => exact .unlessReset (.timeMark ..)
  case markWindowClose => exact .unlessReset (.closeWindow _)
  case markLost => exact .unlessReset (.change (.markLostTest _))
  case slotStart =>
    refine .unlessCut ?_
    split
    · exact .startSlot ..
    · exact .refl _
  case busLost => exact .ifRunning (.change (.busLostTest _))
  case build =>
    split
    · exact .buildFrame _
    · exact .refl _
  case frameBegin => exact .ifRunning (.frameStart _)
  case echoMismatch =>
    refine .ifRunning ?_
    split
    · exact .echoAbort _
    · exact .refl _
  case enterSilent =>
    refine .ifRunning ?_
    split
    · exact .change (.becomeSilent (State.Kept.silentDecided_loaded ‹_›))
    · exact .refl _
  case enterIsolated =>
    refine .ifRunning ?_
    split
    · rename_i decided
      exact .change (.becomeIsolated (State.Kept.isolatedDecided_state decided).1)
    · exact .refl _
  case enterNight =>
    refine .ifRunning ?_
    split
    · exact .change (.enterNight ‹_›)
    · exact .refl _
  case sunRecordExpiry => exact .ifRunning (.of_same rfl rfl)
  case rxStale => exact .ifRunning (.change (.rxStaleTest _))
  case peerAgeOut => exact .ifRunning (.of_same rfl rfl)
  case residueExpiry => exact .ifRunning (.of_same rfl rfl)
  case aimTick => exact .ifRunning (.aimTick ..)
  case axisStep =>
    split
    · exact .refl _
    · exact .change (.axisStep ..)
  case indexEdge => exact .indexEdge ..
  case homefail =>
    split
    · exact .refl _
    · exact .change (.homefail ..)
  case driveFault => exact .driveFault ..
  case stowInputChange => exact .stowInput ..
  case tripEdge => exact .tripInput ..
  case generationEnd => exact .ifRunning (.endGeneration _)
  case activateDetection => exact .receiveBit ..
  case releaseDetection => exact .receiveBit ..
  case detectorLock => exact .receiveBit ..
  case dniPulse => exact .ifRunning (.dniPulse _)
  case windowEnd => exact .ifRunning (.change (.of_same rfl))

end Rows

/-- Settles O55: every row is made of changes that the Alert Unit sees and of operations that leave the conditions. A condition
that differs in the end has differed in one of the changes, and what that one latched is not published before the row is over,
so no CLEAR-ALERTS of the row clears it. -/
theorem everyTransitionLatches : Obligations.EveryTransitionLatches :=
  fun _ _ _ before after h => (State.Latching.of_exec h).latched before after

end Sys2Proof.Machine
end

section
/-! The queue of waiting commands and the count of drawn free values over every row (log entries 2, 15, 27 and 37). -/

namespace Sys2Proof.Machine

/-- What of the state is the model's own: the queue of waiting commands and the count of drawn free values. -/
def State.waiting (s : State) : List Instr × Nat := (s.pending, s.draws)

theorem State.waiting_eq_iff {s t : State} : t.waiting = s.waiting ↔ t.pending = s.pending ∧ t.draws = s.draws :=
  Prod.mk_inj

/-- An update of other fields: the literal state shows its own queue and count. -/
@[simp] theorem State.waiting_mk (pending draws cfg helios interest src bi rs dcu pt irm fa sc au acu stowin tripin straps) :
    (State.mk pending draws cfg helios interest src bi rs dcu pt irm fa sc au acu stowin tripin straps).waiting =
      (pending, draws) := rfl

@[simp] theorem State.pending_draws_eq_waiting (s : State) : (s.pending, s.draws) = s.waiting := rfl

/-! ## Shared operations -/

@[simp] theorem State.change_waiting (s : State) (f : State → State) : (s.change f).waiting = (f s).waiting :=
  State.waiting_eq_iff.2 ⟨s.change_pending f, s.change_draws f⟩

@[simp] theorem State.updateHelio_waiting (s : State) (i : Fin 8) (f : Helio → Helio) :
    (s.updateHelio i f).waiting = s.waiting := rfl

@[simp] theorem State.reengageAll_waiting (s : State) : s.reengageAll.waiting = s.waiting := rfl

@[simp] theorem State.setSources_waiting (s : State) (f : Sources → Sources) : (s.setSources f).waiting = s.waiting := rfl

@[simp] theorem State.count_waiting (s : State) (f : Counters → Counters) : (s.count f).waiting = s.waiting := rfl

@[simp] theorem State.answer_waiting (s : State) (k hf : Byte) (r : Result) : (s.answer k hf r).waiting = s.waiting := rfl

@[simp] theorem State.recomputeInterest_waiting (s : State) : s.recomputeInterest.waiting = s.waiting := rfl

@[simp] theorem State.takeCommand_waiting (s : State) (k hf : Byte) (f : State → Result × State) :
    (s.takeCommand k hf f).waiting = (f s).2.waiting := by
  simp [State.takeCommand]

theorem State.ifRunning_waiting {s : State} {f : State → State} (kept : (f s).waiting = s.waiting) :
    (s.ifRunning f).waiting = s.waiting := by
  unfold State.ifRunning
  split
  · exact kept
  · rfl

theorem State.unlessReset_waiting {s : State} {f : State → State} (kept : (f s).waiting = s.waiting) :
    (s.unlessReset f).waiting = s.waiting := by
  unfold State.unlessReset
  split
  · rfl
  · exact kept

theorem State.unlessCut_waiting {s : State} {f : State → State} (kept : (f s).waiting = s.waiting) :
    (s.unlessCut f).waiting = s.waiting := by
  unfold State.unlessCut
  split
  · rfl
  · exact unlessReset_waiting kept

/-- An operation that keeps the queue, made in turn for each entry of a list, keeps it. -/
theorem State.foldl_waiting {α : Type} {f : State → α → State} (kept : ∀ s a, (f s a).waiting = s.waiting) (l : List α)
    (s : State) : (l.foldl f s).waiting = s.waiting := by
  induction l generalizing s with
  | nil => rfl
  | cons a rest ih => exact (ih _).trans (kept s a)

/-! ## The own frame and the station states (R95 to R101, R185 to R191) -/

@[simp] theorem State.cutFrame_waiting (s : State) : s.cutFrame.waiting = s.waiting := by
  obtain ⟨-, e⟩ | ⟨-, e⟩ | ⟨-, e⟩ := s.cutFrame_cases <;> rw [e] <;> rfl

@[simp] theorem State.toState_waiting (s : State) (new : StationState) : (s.toState new).waiting = s.waiting := by
  simp only [State.toState]
  split
  · rfl
  · rw [cutFrame_waiting, waiting_mk, pending_draws_eq_waiting]

@[simp] theorem State.becomeSilent_waiting (s : State) : s.becomeSilent.waiting = s.waiting := by
  simp [State.becomeSilent]

@[simp] theorem State.becomeIsolated_waiting (s : State) : s.becomeIsolated.waiting = s.waiting := by
  simp [State.becomeIsolated]

@[simp] theorem State.becomeNight_waiting (s : State) : s.becomeNight.waiting = s.waiting := by simp [State.becomeNight]

@[simp] theorem State.leaveIsolated_waiting (s : State) : s.leaveIsolated.waiting = s.waiting := by
  simp [State.leaveIsolated]

@[simp] theorem State.storeIsoCount_waiting (s : State) : s.storeIsoCount.waiting = s.waiting := rfl

/-- R185: whatever the tests decide. -/
@[simp] theorem State.stationTests_waiting (s : State) : s.stationTests.waiting = s.waiting := by
  have otherwise : s.otherwiseDecided.waiting = s.waiting := by
    unfold State.otherwiseDecided
    split
    · split <;> simp
    · rfl
    · rfl
    · split <;> simp
    all_goals rfl
  unfold State.stationTests
  split_ifs <;> simp [otherwise]

@[simp] theorem State.supplyPlan_waiting (s : State) : s.supplyPlan.waiting = s.waiting := by
  unfold State.supplyPlan
  split <;> rfl

@[simp] theorem State.buildFrame_waiting (s : State) : s.buildFrame.waiting = s.waiting := by
  simp [State.buildFrame, State.storeFrame, State.markCarried]

@[simp] theorem State.frameStart_waiting (s : State) : s.frameStart.waiting = s.waiting := by
  unfold State.frameStart
  split_ifs
  · rfl
  · exact s.cutFrame_waiting
  · rfl

@[simp] theorem State.completeFrame_waiting (s : State) : s.completeFrame.waiting = s.waiting := rfl

@[simp] theorem State.echoAbort_waiting (s : State) : s.echoAbort.waiting = s.waiting := by simp [State.echoAbort]

/-! ## The defocus code (R127 to R136) -/

@[simp] theorem State.activateCode_waiting (s : State) : s.activateCode.waiting = s.waiting := by
  unfold State.activateCode
  split <;> rfl

@[simp] theorem State.releaseCode_waiting (s : State) : s.releaseCode.waiting = s.waiting := by
  unfold State.releaseCode
  split <;> rfl

/-- R128, R131: whichever of the two detections a bit brings, and in either order. -/
@[simp] theorem State.receiveBit_waiting (s : State) (activateFirst bit : Bool) :
    (s.receiveBit activateFirst bit).waiting = s.waiting := by
  have onActivate (t : State) : (if s.activateDetected bit then t.change State.activateCode else t).waiting = t.waiting := by
    split <;> simp
  have onRelease (t : State) : (if s.releaseDetected bit then t.change State.releaseCode else t).waiting = t.waiting := by
    split <;> simp
  have fed : (s.feedBit bit).waiting = s.waiting := rfl
  simp only [State.receiveBit]
  split
  · split
    · exact (onRelease _).trans ((onActivate _).trans fed)
    · exact (onActivate _).trans ((onRelease _).trans fed)
  · rfl

@[simp] theorem State.startGeneration_waiting (s : State) : s.startGeneration.waiting = s.waiting := by
  simp [State.startGeneration]

@[simp] theorem State.endGeneration_waiting (s : State) : s.endGeneration.waiting = s.waiting := by
  unfold State.endGeneration
  split <;> rfl

/-! ## Resets and loads (R180 to R195) -/

/-- R192 (log entry 27). -/
@[simp] theorem State.hardReset_waiting (s : State) : s.hardReset.waiting = s.waiting := rfl

@[simp] theorem State.softReset_waiting (s : State) : s.softReset.waiting = s.waiting := rfl

@[simp] theorem State.loadIfReleased_waiting (s t : State) : (s.loadIfReleased t).waiting = t.waiting := by
  unfold State.loadIfReleased
  split <;> rfl

@[simp] theorem State.powerOnReset_waiting (s : State) (inForce : Bool) : (s.powerOnReset inForce).waiting = s.waiting := by
  unfold State.powerOnReset
  split <;> simp

@[simp] theorem State.resetPin_waiting (s : State) (active : Bool) : (s.resetPin active).waiting = s.waiting := by
  unfold State.resetPin
  split <;> simp

@[simp] theorem State.startHomings_waiting (s : State) : s.startHomings.waiting = s.waiting :=
  foldl_waiting (fun t i => by split <;> rfl) _ s

@[simp] theorem State.takeImage_waiting (s : State) (v : ImageValues) : (s.takeImage v).waiting = s.waiting := by
  simp [State.takeImage]

@[simp] theorem State.passLoad_waiting (s : State) (v : ImageValues) : (s.passLoad v).waiting = s.waiting := by
  simp [State.passLoad, State.latchAtLoad, State.beginSyncing, State.takeLoadSources]

@[simp] theorem State.endLoad_waiting (s : State) (image : List Byte) : (s.endLoad image).waiting = s.waiting := by
  simp only [State.endLoad]
  split <;> simp

/-! ## Command entries (R102, R204) -/

theorem stationWide_waiting (hf : Byte) {f : State → Result × State} {s : State}
    (kept : (f s).2.waiting = s.waiting) : (stationWide hf f s).2.waiting = s.waiting := by
  unfold stationWide
  split
  · exact kept
  · rfl

@[simp] theorem State.stowField_waiting (s : State) (hf : Byte) : (s.stowField hf).waiting = s.waiting :=
  (s.takeCommand_waiting ..).trans (stationWide_waiting hf rfl)

@[simp] theorem State.stowRelease_waiting (s : State) (hf : Byte) : (s.stowRelease hf).waiting = s.waiting := by
  have effect : (stowReleaseEffect s).2.waiting = s.waiting := by
    unfold stowReleaseEffect
    split_ifs <;> rfl
  exact (s.takeCommand_waiting ..).trans (stationWide_waiting hf effect)

@[simp] theorem State.standbySet_waiting (s : State) (hf : Byte) : (s.standbySet hf).waiting = s.waiting :=
  (s.takeCommand_waiting ..).trans (stationWide_waiting hf rfl)

@[simp] theorem State.standbyClear_waiting (s : State) (hf : Byte) : (s.standbyClear hf).waiting = s.waiting := by
  have effect : (standbyClearEffect s).2.waiting = s.waiting := by
    unfold standbyClearEffect
    split <;> rfl
  exact (s.takeCommand_waiting ..).trans (stationWide_waiting hf effect)

@[simp] theorem State.hold_waiting (s : State) (hf : Byte) (az el : Word) : (s.hold hf az el).waiting = s.waiting := by
  rw [State.hold, takeCommand_waiting, holdEffect]
  split
  · rfl
  · split <;> rfl

@[simp] theorem State.holdRelease_waiting (s : State) (hf : Byte) : (s.holdRelease hf).waiting = s.waiting := by
  rw [State.holdRelease, takeCommand_waiting, holdReleaseEffect]
  split
  · rfl
  · split <;> rfl

@[simp] theorem State.serviceOut_waiting (s : State) (hf : Byte) : (s.serviceOut hf).waiting = s.waiting := by
  rw [State.serviceOut, takeCommand_waiting, serviceOutEffect]
  split
  · rfl
  · split <;> rfl

@[simp] theorem State.serviceIn_waiting (s : State) (hf : Byte) : (s.serviceIn hf).waiting = s.waiting := by
  rw [State.serviceIn, takeCommand_waiting, serviceInEffect]
  split
  · rfl
  · split_ifs <;> simp

@[simp] theorem State.correct_waiting (s : State) (hf : Byte) (dAz dEl : Word) :
    (s.correct hf dAz dEl).waiting = s.waiting := by
  rw [State.correct, takeCommand_waiting, correctEffect]
  split
  · rfl
  · split <;> rfl

@[simp] theorem State.rehomeAll_waiting (s : State) : s.rehomeAll.waiting = s.waiting :=
  foldl_waiting (fun t i => by unfold State.rehomeOne; split <;> rfl) _ s

@[simp] theorem State.rehome_waiting (s : State) (hf : Byte) : (s.rehome hf).waiting = s.waiting := by
  simp only [State.rehome, takeCommand_waiting, rehomeEffect]
  split
  · simp only [rehomeAll_waiting]
  · split
    · rfl
    · split <;> rfl

@[simp] theorem State.defocusRelease_waiting (s : State) (hf : Byte) : (s.defocusRelease hf).waiting = s.waiting := by
  have effect : (defocusReleaseEffect s).2.waiting = s.waiting := by
    unfold defocusReleaseEffect
    split_ifs <;> simp
  exact (s.takeCommand_waiting ..).trans (stationWide_waiting hf effect)

@[simp] theorem State.clearAlerts_waiting (s : State) (hf : Byte) : (s.clearAlerts hf).waiting = s.waiting :=
  (s.takeCommand_waiting ..).trans (stationWide_waiting hf rfl)

@[simp] theorem State.clearSticky_waiting (s : State) (hf : Byte) : (s.clearSticky hf).waiting = s.waiting :=
  (s.takeCommand_waiting ..).trans (stationWide_waiting hf rfl)

@[simp] theorem State.report_waiting (s : State) (hf : Byte) : (s.report hf).waiting = s.waiting := by
  rw [State.report, takeCommand_waiting, reportEffect]
  split
  · rfl
  · split <;> rfl

@[simp] theorem State.restart_waiting (s : State) (hf : Byte) : (s.restart hf).waiting = s.waiting := by
  unfold State.restart
  split <;> simp

@[simp] theorem State.reserved_waiting (s : State) (kind hf : Byte) : (s.reserved kind hf).waiting = s.waiting := rfl

/-- R204: whichever block owns the kind. -/
@[simp] theorem State.takeEntry_waiting (s : State) (e : CommandEntry) : (s.takeEntry e).waiting = s.waiting := by
  unfold State.takeEntry
  split <;> simp

@[simp] theorem State.takeEntries_waiting (s : State) (entries : List CommandEntry) :
    (s.takeEntries entries).waiting = s.waiting := by
  induction entries generalizing s with
  | nil => rfl
  | cons e rest ih =>
    unfold State.takeEntries
    split_ifs
    · exact s.takeEntry_waiting e
    · exact (ih _).trans (s.takeEntry_waiting e)
    · exact ih s

/-! ## Frames (R90 to R94, R111, R119, R141 to R148) -/

@[simp] theorem State.hear_waiting (s : State) : s.hear.waiting = s.waiting := rfl

@[simp] theorem State.takeSun_waiting (s : State) (slot : Fin 8) (s0 r : FrameVec) :
    (s.takeSun slot s0 r).waiting = s.waiting := rfl

@[simp] theorem State.takeReceiver_waiting (s : State) (state : Byte) (zones : List ZoneReading) :
    (s.takeReceiver state zones).waiting = s.waiting := by
  unfold State.takeReceiver
  split <;> rfl

/-- R144 to R148: a hit, a miss with nothing to enter, and a miss that evicts. -/
@[simp] theorem State.takeContribution_waiting (s : State) (station : Nat) (state : Byte) (items : List FrameItem) :
    (s.takeContribution station state items).waiting = s.waiting := by
  have evict (e : Option PeerEntry) : (s.evict e).waiting = s.waiting := by
    cases e <;> rfl
  simp only [State.takeContribution, State.lookUpPeer]
  split
  · rfl
  · split
    · rfl
    · exact evict _

@[simp] theorem State.hearOwnNumber_waiting (s : State) : s.hearOwnNumber.waiting = s.waiting := by
  simp only [State.hearOwnNumber]
  split <;> simp

@[simp] theorem State.takeFrame_waiting (s : State) (slot : Nat) (body : FrameBody) :
    (s.takeFrame slot body).waiting = s.waiting := by
  cases body with
  | contribution st items =>
    simp only [State.takeFrame]
    split <;> simp
  | _ => simp [State.takeFrame]

@[simp] theorem State.receiveBody_waiting (s : State) (slot : Nat) (body : FrameBody) :
    (s.receiveBody slot body).waiting = s.waiting := by
  unfold State.receiveBody
  split
  · split <;> simp
  · rfl

@[simp] theorem State.receiveRaw_waiting (s : State) (raw : RawFrame) : (s.receiveRaw raw).waiting = s.waiting := by
  unfold State.receiveRaw
  split
  · split <;> simp
  · rfl

/-! ## Ticks (R19 to R23, R116, R118, R190) -/

@[simp] theorem State.takeTurns_waiting (s : State) (sun : Vec3) (l : List (Fin 8)) :
    (s.takeTurns sun l).waiting = s.waiting := by
  induction l generalizing s with
  | nil => rfl
  | cons i rest ih => simp [State.takeTurns, ih, State.takeTurn]

@[simp] theorem State.continueTick_waiting (s : State) (t : TickProgress) (stop : Nat) :
    (s.continueTick t stop).waiting = s.waiting := s.takeTurns_waiting ..

@[simp] theorem State.finishTick_waiting (s : State) : s.finishTick.waiting = s.waiting := by
  unfold State.finishTick
  split <;> simp

@[simp] theorem State.updateSunSource_waiting (s : State) (lost : Bool) : (s.updateSunSource lost).waiting = s.waiting := by
  unfold State.updateSunSource
  split <;> rfl

@[simp] theorem State.dawn_waiting (s : State) : s.dawn.waiting = s.waiting := by
  have rehomed (t : State) : t.dawnRehome.waiting = t.waiting := by
    unfold State.dawnRehome
    split <;> simp
  simp [State.dawn, rehomed]

@[simp] theorem State.beginTurns_waiting (s : State) (sun : Vec3) (stop : Nat) :
    (s.beginTurns sun stop).waiting = s.waiting := by
  unfold State.beginTurns
  split <;> simp

@[simp] theorem State.evaluateTick_waiting (s : State) (sun : Option Vec3) (stop : Nat) :
    (s.evaluateTick sun stop).waiting = s.waiting := by
  simp only [State.evaluateTick]
  split
  · simp
  · split <;> simp

@[simp] theorem State.startTick_waiting (s : State) (offset stop : Nat) : (s.startTick offset stop).waiting = s.waiting := by
  unfold State.startTick
  split <;> simp [State.tickTaken]

@[simp] theorem State.aimTick_waiting (s : State) (offset stop : Nat) : (s.aimTick offset stop).waiting = s.waiting := by
  unfold State.aimTick
  split
  · simp
  · split <;> simp

/-! ## Slots, epochs and marks (R87 to R89, R93, R98 to R100) -/

@[simp] theorem State.busLostTest_waiting (s : State) : s.busLostTest.waiting = s.waiting := by
  unfold State.busLostTest
  split <;> rfl

@[simp] theorem State.countSlot_waiting (s : State) : s.countSlot.waiting = s.waiting := by simp [State.countSlot]

@[simp] theorem State.settleOwnSlot_waiting (s : State) : s.settleOwnSlot.waiting = s.waiting := by
  unfold State.settleOwnSlot
  split <;> rfl

@[simp] theorem State.startSlot_waiting (s : State) (slot : Nat) : (s.startSlot slot).waiting = s.waiting := by
  simp only [State.startSlot]
  split
  · split <;> simp [State.openOwnSlot]
  · simp

@[simp] theorem State.rxStaleTest_waiting (s : State) : s.rxStaleTest.waiting = s.waiting := by
  unfold State.rxStaleTest
  split <;> rfl

@[simp] theorem State.handEpoch_waiting (s : State) : s.handEpoch.waiting = s.waiting := by
  simp [State.handEpoch, State.nightEvaluation, State.expireSuns]

@[simp] theorem State.testEpoch_waiting (s : State) : s.testEpoch.waiting = s.waiting := by simp [State.testEpoch]

@[simp] theorem State.epochStartTick_waiting (s : State) (tickFirst : Bool) :
    (s.epochStartTick tickFirst).waiting = s.waiting := by
  unfold State.epochStartTick
  split <;> simp [State.leaveTickDue]

@[simp] theorem State.makeEpochStart_waiting (s : State) (tickFirst : Bool) :
    (s.makeEpochStart tickFirst).waiting = s.waiting := by
  simp only [State.makeEpochStart]
  split <;> simp [State.scheduleTicks]

@[simp] theorem State.wrap_waiting (s : State) (tickFirst : Bool) : (s.wrap tickFirst).waiting = s.waiting := by
  simp [State.wrap]

/-- R88: a mark in the window, and one that cuts the epoch short. -/
@[simp] theorem State.timeMark_waiting (s : State) (tickFirst : Bool) : (s.timeMark tickFirst).waiting = s.waiting := by
  simp only [State.timeMark]
  split
  · simp [State.realign]
  · simp [State.markEpoch]

@[simp] theorem State.markLostTest_waiting (s : State) : s.markLostTest.waiting = s.waiting := by
  unfold State.markLostTest
  split <;> rfl

@[simp] theorem State.closeWindow_waiting (s : State) : s.closeWindow.waiting = s.waiting := by
  unfold State.closeWindow
  split <;> simp

/-! ## Axes and pins (R44 to R58, R80 to R82, R133) -/

@[simp] theorem State.axisStep_waiting (s : State) (h : Fin 8) (a : AxisId) : (s.axisStep h a).waiting = s.waiting := by
  unfold State.axisStep
  split <;> rfl

@[simp] theorem State.indexEdge_waiting (s : State) (h : Fin 8) (a : AxisId) (level : Bool) :
    (s.indexEdge h a level).waiting = s.waiting := by
  have rise (t : State) : (t.indexRise h a).waiting = t.waiting := by
    simp only [State.indexRise]
    split_ifs <;> rfl
  simp only [State.indexEdge]
  split <;> simp [rise]

@[simp] theorem State.homefail_waiting (s : State) (h : Fin 8) (a : AxisId) : (s.homefail h a).waiting = s.waiting := by
  unfold State.homefail
  split <;> rfl

@[simp] theorem State.driveFault_waiting (s : State) (h : Fin 8) (active : Bool) :
    (s.driveFault h active).waiting = s.waiting := by
  simp only [State.driveFault]
  split <;> simp

@[simp] theorem State.stowInput_waiting (s : State) (active : Bool) : (s.stowInput active).waiting = s.waiting := by
  simp only [State.stowInput]
  split <;> simp [State.stowChange]

@[simp] theorem State.tripInput_waiting (s : State) (active : Bool) : (s.tripInput active).waiting = s.waiting := by
  simp only [State.tripInput]
  split <;> simp

/-! ## Every row -/

/-- Every row answers a next state, with the queue and the draws of the state before. -/
theorem exec_next_waiting (c : Instr) (s : State) : ∃ t, exec c s = .next t ∧ t.waiting = s.waiting := by
  cases c <;> refine ⟨_, rfl, ?_⟩
  case stowField => exact State.ifRunning_waiting (s.stowField_waiting _)
  case stowRelease => exact State.ifRunning_waiting (s.stowRelease_waiting _)
  case standbySet => exact State.ifRunning_waiting (s.standbySet_waiting _)
  case standbyClear => exact State.ifRunning_waiting (s.standbyClear_waiting _)
  case hold => exact State.ifRunning_waiting (s.hold_waiting ..)
  case holdRelease => exact State.ifRunning_waiting (s.holdRelease_waiting _)
  case serviceOut => exact State.ifRunning_waiting (s.serviceOut_waiting _)
  case serviceIn => exact State.ifRunning_waiting (s.serviceIn_waiting _)
  case correct => exact State.ifRunning_waiting (s.correct_waiting ..)
  case rehome => exact State.ifRunning_waiting (s.rehome_waiting _)
  case defocusRelease => exact State.ifRunning_waiting (s.defocusRelease_waiting _)
  case clearAlerts => exact State.ifRunning_waiting (s.clearAlerts_waiting _)
  case clearSticky => exact State.ifRunning_waiting (s.clearSticky_waiting _)
  case report => exact State.ifRunning_waiting (s.report_waiting _)
  case restart => exact State.ifRunning_waiting (s.restart_waiting _)
  case reservedCommand => exact State.ifRunning_waiting (by split <;> rfl)
  case sunFrame => exact s.receiveBody_waiting ..
  case receiverFrame => exact s.receiveBody_waiting ..
  case contributionFrame => exact s.receiveBody_waiting ..
  case commandFrame => exact s.receiveBody_waiting ..
  case ownNumberFrame => split <;> simp
  case frameDropped => exact s.receiveRaw_waiting _
  case epochStart => exact State.unlessCut_waiting (s.wrap_waiting _)
  case timeMark => exact State.unlessReset_waiting (s.timeMark_waiting _)
  case markWindowClose => exact State.unlessReset_waiting s.closeWindow_waiting
  case markLost => exact State.unlessReset_waiting (by simp)
  case slotStart => exact State.unlessCut_waiting (by split <;> simp)
  case busLost => exact State.ifRunning_waiting (by simp)
  case build => split <;> simp
  case frameBegin => exact State.ifRunning_waiting s.frameStart_waiting
  case transmitCompletion => exact State.ifRunning_waiting (by split <;> simp)
  case echoMismatch => exact State.ifRunning_waiting (by split <;> simp)
  case enterSilent => exact State.ifRunning_waiting (by split <;> simp)
  case enterIsolated => exact State.ifRunning_waiting (by split <;> simp)
  case enterNight => exact State.ifRunning_waiting (by split <;> simp)
  case sunRecordExpiry => exact State.ifRunning_waiting rfl
  case rxStale => exact State.ifRunning_waiting (by simp)
  case peerAgeOut => exact State.ifRunning_waiting rfl
  case residueExpiry => exact State.ifRunning_waiting rfl
  case aimTick => exact State.ifRunning_waiting (s.aimTick_waiting ..)
  case axisStep => split <;> simp
  case indexEdge => exact s.indexEdge_waiting ..
  case homefail => split <;> simp
  case driveFault => exact s.driveFault_waiting ..
  case stowInputChange => exact s.stowInput_waiting _
  case tripEdge => exact s.tripInput_waiting _
  case generationEnd => exact State.ifRunning_waiting s.endGeneration_waiting
  case activateDetection => exact s.receiveBit_waiting ..
  case releaseDetection => exact s.receiveBit_waiting ..
  case detectorLock => exact s.receiveBit_waiting ..
  case dniPulse => exact State.ifRunning_waiting rfl
  case windowEnd => exact State.ifRunning_waiting (by simp)
  case powerOnReset input => exact (s.strapsAt input.straps).powerOnReset_waiting _
  case resetn input => exact (s.strapsAt input.straps).resetPin_waiting _
  case loadEnd straps image =>
    split
    · exact (s.strapsAt straps).endLoad_waiting image
    · rfl

/-- Settles O2: each row is made of operations that change other fields of the state alone. -/
theorem commandsGoOnAndKeepTheQueue : Obligations.CommandsGoOnAndKeepTheQueue := fun c s =>
  let ⟨t, next, kept⟩ := exec_next_waiting c s
  ⟨t, next, State.waiting_eq_iff.1 kept⟩

/-- Settles O1: a step with a waiting command is that command's row (step_cons). -/
theorem stepTakesTheFrontCommand : Obligations.StepTakesTheFrontCommand := fun _ _ _ front => step_cons front

end Sys2Proof.Machine
end
